-- ==== Sys2Proof/Word.lean ====
section
/-! DEFINITION. The value types of the DX-16: bytes of the Local Port and the fields of Peer Bus frames. -/

namespace Sys2Proof

/-- A byte of a Local Port frame or response (R189, R190). -/
abbrev Byte := BitVec 8

/-- A station ID, 0–15; arithmetic on it is modulo 16 (00_scope.md 5.2). -/
abbrev StationId := BitVec 4

/-- A generation, 0–15, counted modulo 16 (R61). -/
abbrev Generation := BitVec 4

/-- A service class, 0–15; numerically lower is more urgent (00_scope.md Table 4-1). -/
abbrev ServiceClass := BitVec 4

/-- A set of stations; bit n stands for station n (00_scope.md 5.3). -/
abbrev StationMask := BitVec 16

/-- A source index: 0–15 the lines L0–L15, 16–23 the soft sources S0–S7. -/
abbrev SourceIndex := Fin 24

/-- A handle of the Service Table (R107). -/
abbrev Handle := Fin 24

/-- A request line L0–L15. -/
abbrev LineIndex := Fin 16

end Sys2Proof
end

