-- ==== Sys2Proof/Machine/Bits.lean ====
section
/-! DEFINITION. Bit order: how numbers stand on the wire and in bytes (R184, R189). -/

namespace Sys2Proof.Machine

/-- The `w` low bits of `n`, most significant bit first (R184). -/
def natBits : Nat → Nat → List Bool
  | 0, _ => []
  | w + 1, n => n.testBit w :: natBits w n

/-- The number that bits spell, most significant bit first. -/
def bitsNat (bs : List Bool) : Nat :=
  bs.foldl (fun n b => 2 * n + b.toNat) 0

/-- A field of any width as it is transmitted. -/
def fieldBits {w : Nat} (x : BitVec w) : List Bool := natBits w x.toNat

/-- The bits of bytes, first byte first (R153). -/
def byteBits (bs : List Byte) : List Bool := bs.flatMap fieldBits

/-- The bytes that bits spell, and the bits after the last whole byte (R153). -/
def splitBytes : List Bool → List Byte × List Bool
  | a :: b :: c :: d :: e :: f :: g :: h :: rest =>
    let r := splitBytes rest
    (BitVec.ofNat 8 (bitsNat [a, b, c, d, e, f, g, h]) :: r.1, r.2)
  | short => ([], short)

/-- The bits at positions `start` to `start + len - 1`. -/
def slice (bs : List Bool) (start len : Nat) : List Bool := (bs.drop start).take len

/-- The number at positions `start` to `start + len - 1`. -/
def sliceNat (bs : List Bool) (start len : Nat) : Nat := bitsNat (slice bs start len)

/-- Whether station `n` belongs to a set of stations (00_scope.md 5.3). -/
def maskHas (m : StationMask) (n : StationId) : Bool := m.getLsbD n.toNat

/-- The set that holds one station. -/
def maskOnly (n : StationId) : StationMask := 1 <<< n.toNat

/-- One bit of a packed byte: `b` at position `p` (Tables 10-6 to 10-14). -/
def bitAt (p : Nat) (b : Bool) : Byte := BitVec.ofNat 8 (b.toNat <<< p)

end Sys2Proof.Machine
end

