-- ==== Sys2Proof/Machine/Codes.lean ====
section
/-! DEFINITION. Code tables: command codes (Table 10-5) and frame kinds with their lengths (Table 1-3). -/

namespace Sys2Proof.Machine

/-- The least and greatest number of bytes in a frame with this command code; none for a byte that is no
command code (R189, Table 10-5). -/
def byteCount (code : Byte) : Option (Nat × Nat) :=
  match code.toNat with
  | 0x00 => some (1, 32)
  | 0x01 => some (1, 1)
  | 0x02 => some (1, 1)
  | 0x03 => some (1, 1)
  | 0x04 => some (2, 2)
  | 0x05 => some (2, 2)
  | 0x06 => some (2, 2)
  | 0x07 => some (2, 2)
  | 0x08 => some (1, 1)
  | 0x09 => some (1, 1)
  | 0x10 => some (4, 4)
  | 0x11 => some (3, 3)
  | 0x12 => some (9, 9)
  | 0x13 => some (1, 1)
  | 0x20 => some (2, 2)
  | 0x21 => some (2, 2)
  | 0x22 => some (2, 2)
  | 0x23 => some (1, 1)
  | 0x24 => some (1, 1)
  | 0x30 => some (1, 1)
  | 0x31 => some (1, 1)
  | 0x32 => some (1, 1)
  | 0x33 => some (2, 2)
  | 0x34 => some (1, 1)
  | 0x35 => some (1, 1)
  | 0x3F => some (1, 1)
  | _ => none

/-- Whether a byte is a command code. -/
def isCommandCode (code : Byte) : Bool := (byteCount code).isSome

/-- The kinds of frame (Table 1-3); 011 and 111 are invalid. -/
inductive FrameKind where
  | hello | done | withdraw | direct | pool | spread | invalid
  deriving DecidableEq, Repr

/-- The kind that the three kind bits code (R186). -/
def FrameKind.ofCode : Nat → FrameKind
  | 0 => .hello
  | 1 => .done
  | 2 => .withdraw
  | 4 => .direct
  | 5 => .pool
  | 6 => .spread
  | _ => .invalid

/-- Body bits of a kind (Table 1-3). -/
def FrameKind.bodyLength : FrameKind → Nat
  | .hello => 0
  | .done => 14
  | .withdraw => 13
  | .direct => 22
  | .pool => 38
  | .spread => 33
  | .invalid => 0

/-- The rank that goes with a kind (R15, Table 1-3); none for an invalid kind. -/
def FrameKind.rank : FrameKind → Option Nat
  | .hello => some 0
  | .done => some 1
  | .withdraw => some 1
  | .direct => some 2
  | .pool => some 2
  | .spread => some 2
  | .invalid => none

/-- First bit of the check field, after SOF, arbitration field, kind and body (Table 10-1). -/
def FrameKind.checkAt (k : FrameKind) : Nat := 14 + k.bodyLength

/-- Position of the COMMIT bit (Table 10-1). -/
def FrameKind.commitAt (k : FrameKind) : Nat := 22 + k.bodyLength

/-- Position of the ERR bit (Table 10-1). -/
def FrameKind.errAt (k : FrameKind) : Nat := 23 + k.bodyLength

end Sys2Proof.Machine
end

