-- ==== Sys2Proof/Config.lean ====
section
/-! DEFINITION. What the part fixes for every unit, and the one choice the manual leaves open. -/

namespace Sys2Proof.Config

/-- FREE VALUE (log 7). Whether, in the tick numbered by the first argument, the request event of a source
is taken before the expiry of the same source's backoff timer. R82 gives the outcome of each order and no
rule says which holds when one tick brings both. -/
opaque requestFirst : Nat → SourceIndex → Bool

/-- Vendor code of the identification (R160). -/
def vendorCode : Byte := 0xA7

/-- Part code of the identification (R160). -/
def partCode : Byte := 0x16

/-- Design level of the identification (R160). -/
def designLevel : Byte := 0x01

/-- CLKIN periods that a full reset begun by the RESET command lasts (R25). -/
def resetCommandPeriods : Nat := 16

/-- Recessive samples that complete integration (R3). -/
def integrationLimit : Nat := 96

/-- Recessive samples after which the bus is idle (R4). -/
def idleLimit : Nat := 11

/-- Attempts after which a notice is dropped (R143). -/
def attemptLimit : Nat := 16

/-- Greatest depth of the in-service stack (R111). -/
def stackLimit : Nat := 8

/-- Input bits the port counts in one frame (R153). -/
def inputLimit : Nat := 256

end Sys2Proof.Config
end

