-- ==== Sys2Proof/Syntax.lean ====
section
/-! DEFINITION. The commands of the block: one constructor for each row of spec/opcode_table.json, in the
table's order. The table gives its rows no bits; the operands are those the rules of each row name. -/

namespace Sys2Proof

/-- What follows the command code in a port frame: the whole bytes, and the bits after the last whole byte
(R153; a frame of whole bytes has none). -/
structure PortTail where
  bytes : List Byte := []
  extra : List Bool := []
  deriving DecidableEq, Repr

/-- A port frame that is not taken: all its bits, and how many of them were clocked before an entry to RESET cut it
(R24; log 5). -/
structure UntakenFrame where
  bits : List Bool
  beforeReset : Nat := 0
  deriving DecidableEq, Repr

/-- What a notice refers to: the CLOSING entry of a DONE, or the WITHDRAWING source of a WITHDRAW (R136).
The list holds at most one notice for each (R137), so this names a notice. -/
inductive NoticeRef where
  | done (h : Handle)
  | withdraw (k : SourceIndex)
  deriving DecidableEq, Repr

/-- The commands. A `samples` list holds one level a bit time, in the order of the wire, `true` recessive
(log 1); a `PortTail` holds a port frame after its code byte (log 5). -/
inductive Instr where
  /-- POWER_UP (R24). -/
  | powerUp
  /-- RESET_PIN_LOW (R24). -/
  | resetPinLow
  /-- END_OF_FULL_RESET (R26), with the levels of ID3–ID0. -/
  | endOfFullReset (straps : StationId)
  /-- STATION_TICK (R42), with the levels of L15–L0; bit n is line n, 1 is high. -/
  | stationTick (levels : BitVec 16)
  /-- DEBOUNCE_QUALIFIED (R45): the fourth consecutive active sample of line n. -/
  | debounceQualified (n : LineIndex)
  /-- BACKOFF_EXPIRY (R70) of source k. -/
  | backoffExpiry (k : SourceIndex)
  /-- HOLD_OFF_EXPIRY (R144) of a notice. -/
  | holdOffExpiry (r : NoticeRef)
  /-- HELLO_RETRY_EXPIRY (R33). -/
  | helloRetryExpiry
  /-- INTEGRATION_COMPLETE (R3): samples taken while integrating, the 96th recessive one the last (log 20). -/
  | integrationComplete (samples : List Bool)
  /-- BUS_IDLE (R4): samples taken between frames, the eleventh recessive one the last (log 20). -/
  | busIdle (samples : List Bool)
  /-- START_OPPORTUNITY (R5, R6): the sample of that bit time. -/
  | startOpportunity (sample : Bool)
  /-- ARBITRATION_REPORT (R8): the levels of bits 1 to 10, first bit leftmost. -/
  | arbitrationReport (field : BitVec 10)
  /-- BIT_COMPARE_MISMATCH (R11): samples from bit 11 on. -/
  | bitCompareMismatch (samples : List Bool)
  /-- FRAME_ABANDONED (R13): samples from bit 11 to COMMIT. -/
  | frameAbandoned (samples : List Bool)
  /-- DECISION (R85): samples of an offer from bit 11 to ERR. -/
  | decision (samples : List Bool)
  /-- FRAME_DISCARDED_BY_ERR (R16): samples from bit 11 to ERR. -/
  | frameDiscardedByErr (samples : List Bool)
  /-- HELLO_COMPLETION (R21): samples from bit 11 to ERR, and the presence mask window, station 15 leftmost. -/
  | helloCompletion (samples : List Bool) (presence : StationMask)
  /-- DONE_COMPLETION (R20): samples from bit 11 to ERR, and the ACK bit. -/
  | doneCompletion (samples : List Bool) (ack : Bool)
  /-- WITHDRAW_COMPLETION (R20): samples from bit 11 to ERR, and the ACK bit. -/
  | withdrawCompletion (samples : List Bool) (ack : Bool)
  /-- NOTICE_DROP (R143) of a notice. -/
  | noticeDrop (r : NoticeRef)
  /-- DIRECT_OFFER_COMPLETION (R92): the ACCEPT bit. -/
  | directOfferCompletion (accept : Bool)
  /-- POOL_OFFER_COMPLETION (R94): the claim-word window, first bit leftmost. -/
  | poolOfferCompletion (word : BitVec 14)
  /-- SPREAD_OFFER_COMPLETION (R98): the accept mask window, station 15 leftmost. -/
  | spreadOfferCompletion (mask : StationMask)
  /-- SOURCE_FAILED (R79) of source k. -/
  | sourceFailed (k : SourceIndex)
  /-- NOP (R159). -/
  | nop (t : PortTail)
  /-- READ_ID (R160). -/
  | readId (t : PortTail)
  /-- READ_STATUS (R162). -/
  | readStatus (t : PortTail)
  /-- READ_STATION (R177). -/
  | readStation (t : PortTail)
  /-- READ_LINE (R43). -/
  | readLine (t : PortTail)
  /-- READ_ROUTE (R178). -/
  | readRoute (t : PortTail)
  /-- READ_SOURCE (R58). -/
  | readSource (t : PortTail)
  /-- READ_ENTRY (R130). -/
  | readEntry (t : PortTail)
  /-- READ_STACK (R131). -/
  | readStack (t : PortTail)
  /-- READ_PRESENCE (R34). -/
  | readPresence (t : PortTail)
  /-- SET_STATION (R173). -/
  | setStation (t : PortTail)
  /-- SET_LINE (R174). -/
  | setLine (t : PortTail)
  /-- SET_ROUTE (R175). -/
  | setRoute (t : PortTail)
  /-- COMMIT (R29). -/
  | commit (t : PortTail)
  /-- SET_THRESHOLD (R114). -/
  | setThreshold (t : PortTail)
  /-- RAISE (R53). -/
  | raise (t : PortTail)
  /-- CANCEL (R69). -/
  | cancel (t : PortTail)
  /-- ACK_ALERT (R165). -/
  | ackAlert (t : PortTail)
  /-- REJOIN (R38). -/
  | rejoin (t : PortTail)
  /-- PEEK (R115). -/
  | peek (t : PortTail)
  /-- TAKE (R116). -/
  | take (t : PortTail)
  /-- COMPLETE (R119). -/
  | complete (t : PortTail)
  /-- COMPLETE_ENTRY (R120). -/
  | completeEntry (t : PortTail)
  /-- PARK (R36). -/
  | park (t : PortTail)
  /-- UNPARK (R37). -/
  | unpark (t : PortTail)
  /-- RESET (R25). -/
  | reset (t : PortTail)
  /-- UNKNOWN_COMMAND (R156): all the bits of the frame. -/
  | unknownCommand (bits : List Bool)
  /-- VDD_BELOW_OPERATING_LIMIT (R24). -/
  | vddBelowOperatingLimit
  /-- INVALID_KIND_FRAME_END (R9): samples from bit 11 to ERR. -/
  | invalidKindFrameEnd (samples : List Bool)
  /-- COMMAND_FRAME_BEGINS (R153). -/
  | commandFrameBegins
  /-- FRAME_NOT_TAKEN (R156). -/
  | frameNotTaken (f : UntakenFrame)
  deriving DecidableEq, Repr

end Sys2Proof
end

