-- ==== Sys2Proof/Machine/State.lean ====
section
/-! DEFINITION. The state of one DX-16 station, block by block (00_scope.md Table 2-1), and its state at
power-up. A field that a record holds only in some of its states stands inside those states. -/

namespace Sys2Proof.Machine

/-! Station Control and the Configuration Store -/

/-- The station states (R23, Table 2-3). -/
inductive StationState where
  | reset | config | join | run | parked | halt
  deriving DecidableEq, Repr

/-- Station Control (R23, Table 2-3). -/
structure StationControl where
  station : StationState
  id : StationId
  presence : StationMask
  helloPending : Bool
  /-- The HELLO retry timer: stopped, or the ticks to its expiry (R33). -/
  helloRetry : Option Nat
  deriving DecidableEq, Repr

/-- A line setting (R171, Table 10-6): set bits mean active-low, LEVEL, debounce on. -/
structure LineSetting where
  activeLow : Bool
  level : Bool
  debounce : Bool
  deriving DecidableEq, Repr

/-- The routing of a source's offers (R56). -/
inductive RouteMode where
  | direct | pool | spread
  deriving DecidableEq, Repr

/-- A route entry (R56, R171). Both targets are stored; the mode selects one. -/
structure Route where
  enabled : Bool
  mode : RouteMode
  cls : ServiceClass
  vector : Byte
  targetId : StationId
  targetMask : StationMask
  reentrant : Bool
  deriving DecidableEq, Repr

/-- The Configuration Store (R171, Table 9-1). -/
structure ConfigStore where
  declineLimit : Byte
  retryDelay : Byte
  tickDivider : Byte
  lines : Vector LineSetting 16
  routes : Vector Route 24
  deriving DecidableEq, Repr

/-! Line Input Unit -/

/-- The state of one line (R43, Table 3-2). -/
structure LineState where
  lastSample : Bool
  q : Bool
  count : Nat
  armed : Bool
  entryDue : Bool
  deriving DecidableEq, Repr

/-- The Line Input Unit: its lines and the station tick's prescaler (R42, R43). -/
structure LineUnit where
  lines : Vector LineState 16
  prescaler : Nat
  deriving DecidableEq, Repr

/-! Source Table -/

/-- Withdraw sent (R58, R76). -/
inductive WithdrawSent where
  | no | acknowledged | dropped
  deriving DecidableEq, Repr

/-- The source states, each with the fields present only in it: the backoff timer's ticks to expiry,
placed-at, withdraw sent (R58, Table 4-1). -/
inductive SourceState where
  | idle
  | ready
  | offering
  | backoff (ticks : Nat)
  | placed (station : StationId)
  | withdrawing (station : StationId) (sent : WithdrawSent)
  | failed
  deriving DecidableEq, Repr

/-- A source record (R58, Table 4-1). -/
structure SourceRecord where
  state : SourceState
  generation : Generation
  retry : Byte
  again : Bool
  cancelPending : Bool
  remaining : Option StationMask
  deriving DecidableEq, Repr

/-- The Source Table: its records and the ready list, head first (R58, R60). -/
structure SourceTable where
  records : Vector SourceRecord 24
  ready : List SourceIndex
  deriving DecidableEq, Repr

/-! Frames, the Transmit Selector and the Peer Bus Engine -/

/-- The outcome a DONE reports (R107, R136). -/
inductive DoneOutcome where
  | completed | withdrawn
  deriving DecidableEq, Repr

/-- A frame's content: the fields its sender chooses (R186, Table 10-2). -/
inductive Frame where
  | hello (sender : StationId)
  | done (sender : StationId) (cls : ServiceClass) (addressee : StationId) (source : SourceIndex)
      (generation : Generation) (outcome : DoneOutcome)
  | withdraw (sender : StationId) (cls : ServiceClass) (addressee : StationId) (source : SourceIndex)
      (generation : Generation)
  | direct (sender : StationId) (cls : ServiceClass) (target : StationId) (source : SourceIndex)
      (generation : Generation) (vector : Byte) (reentrant : Bool)
  | pool (sender : StationId) (cls : ServiceClass) (target : StationMask) (pointer : StationId)
      (source : SourceIndex) (generation : Generation) (vector : Byte) (reentrant : Bool)
  | spread (sender : StationId) (cls : ServiceClass) (target : StationMask) (source : SourceIndex)
      (generation : Generation) (vector : Byte)
  deriving DecidableEq, Repr

/-- What a frame in hand was built from, and so who owns it (R8). `reported`: the owner has had this frame's
outcome by a row of its own, NOTICE_DROP or SOURCE_FAILED, and gets no second one (log 9). -/
inductive Item where
  | hello
  | notice (r : NoticeRef)
  | offer (k : SourceIndex)
  | reported
  deriving DecidableEq, Repr

/-- A frame in hand: its item, and its content as fixed at the SOF (R5). -/
structure FrameInHand where
  item : Item
  frame : Frame
  deriving DecidableEq, Repr

/-- The Transmit Selector (R5). -/
structure TransmitSelector where
  inHand : Option FrameInHand
  deriving DecidableEq, Repr

/-- The station's role on the bus (Table 1-1). -/
inductive BusRole where
  | noRole | contender | sender | receiver
  deriving DecidableEq, Repr

/-- The claim state (R18). -/
inductive ClaimState where
  | notClaiming | claiming | lost | won
  deriving DecidableEq, Repr

/-- The Peer Bus Engine (Table 1-1). The current frame is the bits sampled so far, SOF first; no bits means
no current frame. Its bit position and decoded fields are computed from them. -/
structure BusEngine where
  synchronised : Bool
  integrationCount : Nat
  idleCount : Nat
  role : BusRole
  current : List Bool
  claim : ClaimState
  driving : Bool
  deriving DecidableEq, Repr

/-! Claim Unit -/

/-- The response role; a claimant's claim word is fixed at the decision (R84, R93). -/
inductive ResponseRole where
  | noRole
  | declined
  | accepting
  | claiming (word : BitVec 14)
  deriving DecidableEq, Repr

/-- The Claim Unit (R84, Table 5-1). -/
structure ClaimUnit where
  pointer : StationId
  reservation : Option Handle
  role : ResponseRole
  deriving DecidableEq, Repr

/-! Service Table -/

/-- The fields written at installation (R100, Table 5-3). -/
structure HeldOffer where
  origin : StationId
  source : SourceIndex
  generation : Generation
  cls : ServiceClass
  vector : Byte
  reentrant : Bool
  tracked : Bool
  deriving DecidableEq, Repr

/-- The occupied states, each with the field present only in it: arrival position, withdraw requested,
outcome (R107, Table 6-1). -/
inductive Phase where
  | pending (arrival : Nat)
  | active (withdrawRequested : Bool)
  | detached
  | closing (outcome : DoneOutcome)
  deriving DecidableEq, Repr

/-- A Service Table entry (R107, R108). -/
inductive Entry where
  | free
  | occupied (offer : HeldOffer) (phase : Phase)
  deriving DecidableEq, Repr

/-- The Service Table. The in-service stack's top is the head of the list (R111). -/
structure ServiceTable where
  entries : Vector Entry 24
  stack : List Handle
  threshold : Nat
  deriving DecidableEq, Repr

/-! Notice List -/

/-- The kind of a notice with its reference and, for a DONE, its outcome (R136, Table 7-1). -/
inductive NoticeBody where
  | done (h : Handle) (outcome : DoneOutcome)
  | withdraw (k : SourceIndex)
  deriving DecidableEq, Repr

/-- A notice (R136, Table 7-1). -/
structure Notice where
  body : NoticeBody
  addressee : StationId
  source : SourceIndex
  generation : Generation
  cls : ServiceClass
  attempts : Nat
  /-- The hold-off timer: stopped, or the ticks to its expiry (R144). -/
  holdOff : Option Nat
  deriving DecidableEq, Repr

/-! Local Port -/

/-- The result codes (R158, Table 10-8). -/
inductive ResultCode where
  | ok | none | empty | badHandle | badArg | badLen | state | route | unknown | reset
  deriving DecidableEq, Repr

/-- A response: result code, command code if any, data (R155). -/
structure Response where
  result : ResultCode
  code : Option Byte
  data : List Byte
  deriving DecidableEq, Repr

/-- Frame in progress, and whether it is treated as begun in RESET: its LSCS# fell in RESET, or it was in progress
at entry to RESET, when LSDO was shifting out the response that `cutByReset` holds (R152, R24; log 6). -/
inductive PortFrame where
  | noFrame | inProgress | begunInReset
  | cutByReset (shifting : Response)
  deriving DecidableEq, Repr

/-- The alert event set (R164). -/
structure Alerts where
  fail : Bool
  drop : Bool
  conflict : Bool
  deriving DecidableEq, Repr

/-- The Local Port (R152, Table 8-1). -/
structure LocalPort where
  frame : PortFrame
  input : List Bool
  overflow : Bool
  outPosition : Nat
  buffer : Response
  alerts : Alerts
  deriving DecidableEq, Repr

/-! Pins and the whole station -/

/-- The pins. `lsdo` is the level LSDO drives, none while it is high-impedance (R154); `lsdoOut` holds the bits
shifted out in the present or last port frame, `pbdOut` what this station drove on PBD over the bit times of the
last bus command, `true` released (log 16). -/
structure Pins where
  srqLow : Bool
  alertLow : Bool
  lsdo : Option Bool
  lsdoOut : List Bool
  pbdOut : List Bool
  lines : BitVec 16
  straps : StationId
  resetLow : Bool
  vddLow : Bool
  deriving DecidableEq, Repr

/-- The station. `resetPeriods` is what is left of a RESET command's 16 CLKIN periods (R25); `ticks` is the
model's own counter of station ticks, which the free tick order is applied to (log 7); `pending` is the queue
of commands. -/
structure State where
  sc : StationControl
  cs : ConfigStore
  liu : LineUnit
  st : SourceTable
  ts : TransmitSelector
  pbe : BusEngine
  cu : ClaimUnit
  svt : ServiceTable
  nl : List Notice
  lp : LocalPort
  pins : Pins
  resetPeriods : Nat
  ticks : Nat
  pending : List Instr
  deriving DecidableEq, Repr

/-- No meaning of this model ends in a fault: the manual describes no event that stops the part (HALT is a
station state, R40). -/
inductive Fault where
  deriving DecidableEq, Repr

/-- Why a command is refused. -/
inductive Refusal where
  /-- Raised by `exec`'s arm of a command that has no meaning yet; safe. No arm raises it. -/
  | notModelled (mnemonic : String)
  deriving DecidableEq, Repr

/-! Full-reset values, as each chapter's table gives them -/

/-- Table 9-1, after full reset. -/
def LineSetting.reset : LineSetting := { activeLow := false, level := false, debounce := false }

/-- Table 9-1, after full reset. -/
def Route.reset : Route :=
  { enabled := false, mode := .direct, cls := 15, vector := 0, targetId := 0, targetMask := 0, reentrant := false }

/-- Table 9-1, after full reset. -/
def ConfigStore.reset : ConfigStore :=
  { declineLimit := 8, retryDelay := 4, tickDivider := 16,
    lines := Vector.replicate 16 LineSetting.reset, routes := Vector.replicate 24 Route.reset }

/-- Table 3-2; the same after rejoin. -/
def LineState.reset : LineState :=
  { lastSample := false, q := false, count := 0, armed := true, entryDue := true }

/-- Table 3-2 and R42; the same after rejoin. -/
def LineUnit.reset : LineUnit := { lines := Vector.replicate 16 LineState.reset, prescaler := 0 }

/-- Table 4-1; the same after rejoin. -/
def SourceRecord.reset : SourceRecord :=
  { state := .idle, generation := 0, retry := 0, again := false, cancelPending := false, remaining := none }

/-- Table 4-1 and R60; the same after rejoin. -/
def SourceTable.reset : SourceTable := { records := Vector.replicate 24 SourceRecord.reset, ready := [] }

/-- Table 1-1; the same after rejoin. -/
def BusEngine.reset : BusEngine :=
  { synchronised := false, integrationCount := 0, idleCount := 0, role := .noRole, current := [],
    claim := .notClaiming, driving := false }

/-- Table 5-1; the same after rejoin. -/
def ClaimUnit.reset : ClaimUnit := { pointer := 15, reservation := none, role := .noRole }

/-- Table 6-1, R111, R114; the same after rejoin. -/
def ServiceTable.reset : ServiceTable :=
  { entries := Vector.replicate 24 Entry.free, stack := [], threshold := 16 }

/-- R164, after full reset. -/
def Alerts.none : Alerts := { fail := false, drop := false, conflict := false }

/-- The response a full reset leaves in the buffer (R24, Table 8-1). -/
def Response.afterReset : Response := { result := .reset, code := none, data := [] }

/-- Table 8-1, after full reset. -/
def LocalPort.reset : LocalPort :=
  { frame := .noFrame, input := [], overflow := false, outPosition := 0, buffer := Response.afterReset,
    alerts := Alerts.none }

/-- The station at power-up, held in RESET with every block at its full-reset value (R24). The station ID and
the input pins have no value the manual gives before the straps are sampled (log 4). -/
def State.reset : State :=
  { sc := { station := .reset, id := 0, presence := 0, helloPending := false, helloRetry := none },
    cs := ConfigStore.reset,
    liu := LineUnit.reset,
    st := SourceTable.reset,
    ts := { inHand := none },
    pbe := BusEngine.reset,
    cu := ClaimUnit.reset,
    svt := ServiceTable.reset,
    nl := [],
    lp := LocalPort.reset,
    pins := { srqLow := false, alertLow := false, lsdo := none, lsdoOut := [], pbdOut := [], lines := 0,
              straps := 0, resetLow := false, vddLow := true },
    resetPeriods := 0,
    ticks := 0,
    pending := [] }

end Sys2Proof.Machine
end

