-- ==== Sys2Proof/Machine/Frames.lean ====
section
/-! DEFINITION. Peer Bus frames as bits: what a sender drives, what a listener reads, the check field and the
ERR checks (R9, R15, R184 to R187). -/

namespace Sys2Proof.Machine

/-- One bit of the check computation: generator x^8 + x^2 + x + 1 (R187). -/
def crcStep (r : Byte) (b : Bool) : Byte :=
  let shifted := r <<< 1
  if b != r.msb then shifted ^^^ 0x07 else shifted

/-- The check value over arbitration field, kind and body, from a register of 00h (R187). -/
def crc (bits : List Bool) : Byte := bits.foldl crcStep 0

/-- The sender ID field (R186). -/
def Frame.sender : Frame → StationId
  | .hello s => s
  | .done s _ _ _ _ _ => s
  | .withdraw s _ _ _ _ => s
  | .direct s _ _ _ _ _ _ => s
  | .pool s _ _ _ _ _ _ _ => s
  | .spread s _ _ _ _ _ => s

/-- The class field; a HELLO carries class 0 (R186, R31). -/
def Frame.cls : Frame → ServiceClass
  | .hello _ => 0
  | .done _ c _ _ _ _ => c
  | .withdraw _ c _ _ _ => c
  | .direct _ c _ _ _ _ _ => c
  | .pool _ c _ _ _ _ _ _ => c
  | .spread _ c _ _ _ _ => c

/-- The kind of a frame (Table 1-3). -/
def Frame.kind : Frame → FrameKind
  | .hello _ => .hello
  | .done _ _ _ _ _ _ => .done
  | .withdraw _ _ _ _ _ => .withdraw
  | .direct _ _ _ _ _ _ _ => .direct
  | .pool _ _ _ _ _ _ _ _ => .pool
  | .spread _ _ _ _ _ _ => .spread

/-- The rank field (Table 10-2). -/
def Frame.rank : Frame → Nat
  | .hello _ => 0
  | .done _ _ _ _ _ _ => 1
  | .withdraw _ _ _ _ _ => 1
  | .direct _ _ _ _ _ _ _ => 2
  | .pool _ _ _ _ _ _ _ _ => 2
  | .spread _ _ _ _ _ _ => 2

/-- The kind code (Table 10-2). -/
def Frame.kindCode : Frame → Nat
  | .hello _ => 0
  | .done _ _ _ _ _ _ => 1
  | .withdraw _ _ _ _ _ => 2
  | .direct _ _ _ _ _ _ _ => 4
  | .pool _ _ _ _ _ _ _ _ => 5
  | .spread _ _ _ _ _ _ => 6

/-- The outcome bit: 0 COMPLETED, 1 WITHDRAWN (Table 10-2). -/
def outcomeBit : DoneOutcome → Bool
  | .completed => false
  | .withdrawn => true

/-- The arbitration field: rank, class, sender ID (R7, R184). -/
def Frame.arbitrationBits (f : Frame) : List Bool :=
  natBits 2 f.rank ++ fieldBits f.cls ++ fieldBits f.sender

/-- The body fields in their order (Table 10-1). -/
def Frame.bodyBits : Frame → List Bool
  | .hello _ => []
  | .done _ _ a k g o => fieldBits a ++ natBits 5 k.val ++ fieldBits g ++ [outcomeBit o]
  | .withdraw _ _ a k g => fieldBits a ++ natBits 5 k.val ++ fieldBits g
  | .direct _ _ t k g v r => fieldBits t ++ natBits 5 k.val ++ fieldBits g ++ fieldBits v ++ [r]
  | .pool _ _ m p k g v r =>
    fieldBits m ++ fieldBits p ++ natBits 5 k.val ++ fieldBits g ++ fieldBits v ++ [r]
  | .spread _ _ m k g v => fieldBits m ++ natBits 5 k.val ++ fieldBits g ++ fieldBits v

/-- The bits the check field covers: bit 1 to the last body bit (R187). -/
def Frame.checkedBits (f : Frame) : List Bool :=
  f.arbitrationBits ++ natBits 3 f.kindCode ++ f.bodyBits

/-- Every bit the sender drives, SOF to COMMIT (R8, R9, R13). -/
def Frame.sentBits (f : Frame) : List Bool :=
  [false] ++ f.checkedBits ++ fieldBits (crc f.checkedBits) ++ [false]

/-- The kind a station sampled in bits 11 to 13 (R9). -/
def sampledKind (bits : List Bool) : FrameKind := FrameKind.ofCode (sliceNat bits 11 3)

/-- First bit of the source index in the body of a kind (Table 10-1). -/
def FrameKind.sourceAt : FrameKind → Option Nat
  | .hello => none
  | .done => some 18
  | .withdraw => some 18
  | .direct => some 18
  | .pool => some 34
  | .spread => some 30
  | .invalid => none

/-- The checks of R15 on the sampled bits: true when any of them fails. -/
def checkFails (bits : List Bool) : Bool :=
  let kind := sampledKind bits
  let rank := sliceNat bits 1 2
  let sourceBad := match kind.sourceAt with
    | some p => decide (23 < sliceNat bits p 5)
    | none => false
  let maskEmpty := (kind == .pool || kind == .spread) && sliceNat bits 14 16 == 0
  let helloClass := kind == .hello && sliceNat bits 3 4 != 0
  (crc (slice bits 1 (kind.checkAt - 1))).toNat != sliceNat bits kind.checkAt 8
    || rank == 3
    || kind == .invalid
    || kind.rank != some rank
    || sourceBad || maskEmpty || helloClass

/-- The content of a frame as sampled, its fields at the positions of Table 10-1. -/
def parseFrame (bits : List Bool) : Option Frame :=
  let field (w start : Nat) : BitVec w := BitVec.ofNat w (sliceNat bits start w)
  let source (start : Nat) : Option SourceIndex :=
    if h : sliceNat bits start 5 < 24 then some ⟨sliceNat bits start 5, h⟩ else none
  let bit (p : Nat) : Bool := bits.getD p false
  let cls : ServiceClass := field 4 3
  let sender : StationId := field 4 7
  match sampledKind bits with
  | .hello => some (.hello sender)
  | .done => (source 18).map fun k =>
      .done sender cls (field 4 14) k (field 4 23) (if bit 27 then .withdrawn else .completed)
  | .withdraw => (source 18).map fun k => .withdraw sender cls (field 4 14) k (field 4 23)
  | .direct => (source 18).map fun k =>
      .direct sender cls (field 4 14) k (field 4 23) (field 8 27) (bit 35)
  | .pool => (source 34).map fun k =>
      .pool sender cls (field 16 14) (field 4 30) k (field 4 39) (field 8 43) (bit 51)
  | .spread => (source 30).map fun k =>
      .spread sender cls (field 16 14) k (field 4 35) (field 8 39)
  | .invalid => none

/-- What a listener reads of the bits it sampled: nothing where a check fails (R15), else the content. -/
def readFrame (bits : List Bool) : Option Frame := if checkFails bits then none else parseFrame bits

/-- The offer a frame carries, as a servicer holds it (R100, Table 5-3). -/
def Frame.offer : Frame → Option HeldOffer
  | .hello _ => none
  | .done _ _ _ _ _ _ => none
  | .withdraw _ _ _ _ _ => none
  | .direct s c _ k g v r =>
    some { origin := s, source := k, generation := g, cls := c, vector := v, reentrant := r, tracked := true }
  | .pool s c _ _ k g v r =>
    some { origin := s, source := k, generation := g, cls := c, vector := v, reentrant := r, tracked := true }
  | .spread s c _ k g v =>
    some { origin := s, source := k, generation := g, cls := c, vector := v, reentrant := false, tracked := false }

/-- Whether an offer's target includes a station (R87). -/
def Frame.targets (f : Frame) (n : StationId) : Bool :=
  match f with
  | .hello _ => false
  | .done _ _ _ _ _ _ => false
  | .withdraw _ _ _ _ _ => false
  | .direct _ _ t _ _ _ _ => t == n
  | .pool _ _ m _ _ _ _ _ => maskHas m n
  | .spread _ _ m _ _ _ => maskHas m n

/-- A contest on the wire: what a station drives of its `own` bits against the line's levels, and whether it
still drives at the end. A station that drives 1 where the line is 0 has lost and releases the line from the
next bit (R7, R11, R18). -/
def contend : List Bool → List Bool → Bool × List Bool
  | o :: os, x :: xs =>
    if o && !x then (false, true :: xs.map fun _ => true)
    else
      let r := contend os xs
      (r.1, o :: r.2)
  | _, _ => (true, [])

/-- The level sampled where a station drives `own` and the line stands at `line`: a 0 overrides (R1). -/
def wiredAnd (own line : List Bool) : List Bool := List.zipWith (· && ·) own line

end Sys2Proof.Machine
end

