-- ==== Sys2Proof/Machine/Ops.lean ====
section
/-! DEFINITION. Named operations over the records, lists and tables of the station: each record is read and
written here and nowhere else. -/

namespace Sys2Proof.Machine

/-! Indices and station states -/

/-- The sources in ascending order (R60). -/
def allSources : List SourceIndex := List.finRange 24

/-- The handles in ascending order (R90). -/
def allHandles : List Handle := List.finRange 24

/-- The line of a source, for a line source (00_scope.md Table 4-1). -/
def lineOf (k : SourceIndex) : Option LineIndex := if h : k.val < 16 then some ⟨k.val, h⟩ else none

/-- The source of a line. -/
def sourceOf (n : LineIndex) : SourceIndex := ⟨n.val, by omega⟩

/-- The states in which a station takes part in the bus, ticks and samples its lines (R2, R42). -/
def StationState.takesPart : StationState → Bool
  | .reset => false
  | .config => false
  | .join => true
  | .run => true
  | .parked => true
  | .halt => false

/-- The states that permit SRQ# and TAKE (R117, R157). -/
def StationState.serves : StationState → Bool
  | .reset => false
  | .config => false
  | .join => false
  | .run => true
  | .parked => true
  | .halt => false

/-! Table reads and writes -/

/-- Source record k. -/
def State.source (s : State) (k : SourceIndex) : SourceRecord := s.st.records.get k

/-- Write source record k. -/
def State.setSource (s : State) (k : SourceIndex) (r : SourceRecord) : State :=
  { s with st := { s.st with records := s.st.records.set k.val r k.isLt } }

/-- Route entry k. -/
def State.route (s : State) (k : SourceIndex) : Route := s.cs.routes.get k

/-- Line setting n. -/
def State.setting (s : State) (n : LineIndex) : LineSetting := s.cs.lines.get n

/-- Line state n. -/
def State.line (s : State) (n : LineIndex) : LineState := s.liu.lines.get n

/-- Write line state n. -/
def State.setLineState (s : State) (n : LineIndex) (l : LineState) : State :=
  { s with liu := { s.liu with lines := s.liu.lines.set n.val l n.isLt } }

/-- Service Table entry h. -/
def ServiceTable.entry (t : ServiceTable) (h : Handle) : Entry := t.entries.get h

/-- Write Service Table entry h. -/
def ServiceTable.setEntry (t : ServiceTable) (h : Handle) (e : Entry) : ServiceTable :=
  { t with entries := t.entries.set h.val e h.isLt }

/-! Service Table entries -/

/-- Occupied: in any state other than FREE (R108). -/
def Entry.isOccupied : Entry → Bool
  | .free => false
  | .occupied _ _ => true

/-- In state PENDING. -/
def Entry.isPending : Entry → Bool
  | .occupied _ (.pending _) => true
  | _ => false

/-- ACTIVE or DETACHED: on the in-service stack (R108). -/
def Entry.onStack : Entry → Bool
  | .occupied _ (.active _) => true
  | .occupied _ .detached => true
  | _ => false

/-- The offer an occupied entry holds. -/
def Entry.offer? : Entry → Option HeldOffer
  | .free => none
  | .occupied o _ => some o

/-- The load: the number of occupied entries (R108). -/
def ServiceTable.load (t : ServiceTable) : Nat := allHandles.countP fun h => (t.entry h).isOccupied

/-- The number of PENDING entries (R109). -/
def ServiceTable.pendingCount (t : ServiceTable) : Nat := allHandles.countP fun h => (t.entry h).isPending

/-- A PENDING entry moves up one place when an earlier one leaves (R109). -/
def Entry.moveUp (left : Nat) : Entry → Entry
  | .free => .free
  | .occupied o (.pending p) => .occupied o (.pending (if left < p then p - 1 else p))
  | .occupied o (.active w) => .occupied o (.active w)
  | .occupied o .detached => .occupied o .detached
  | .occupied o (.closing c) => .occupied o (.closing c)

/-- Entry h becomes `e`; where it leaves PENDING, the entries that arrived after it move up (R109). -/
def ServiceTable.changeEntry (t : ServiceTable) (h : Handle) (e : Entry) : ServiceTable :=
  match t.entry h with
  | .occupied _ (.pending p) =>
    ServiceTable.setEntry { t with entries := t.entries.map (Entry.moveUp p) } h e
  | _ => t.setEntry h e

/-! The ready list -/

/-- A source joins the ready list at the tail of its class (R60). -/
def joinReady (cls : SourceIndex → ServiceClass) (k : SourceIndex) : List SourceIndex → List SourceIndex
  | [] => [k]
  | j :: rest => if cls k < cls j then k :: j :: rest else j :: joinReady cls k rest

/-- Source k joins the ready list (R60). -/
def State.joinReadyList (s : State) (k : SourceIndex) : State :=
  { s with st := { s.st with ready := joinReady (fun j => (s.route j).cls) k s.st.ready } }

/-- Source k leaves the ready list (R60). -/
def State.leaveReadyList (s : State) (k : SourceIndex) : State :=
  { s with st := { s.st with ready := s.st.ready.filter fun j => j != k } }

/-- The offer of source k is in hand (R65). -/
def State.offerInHand (s : State) (k : SourceIndex) : Bool :=
  match s.ts.inHand with
  | some f => f.item == .offer k
  | none => false

/-- The owner of the frame in hand has had its outcome (log 9). -/
def State.markReported (s : State) : State :=
  { s with ts := { inHand := s.ts.inHand.map fun h => { h with item := .reported } } }

/-! The Notice List -/

/-- What a notice refers to. -/
def Notice.ref (n : Notice) : NoticeRef :=
  match n.body with
  | .done h _ => .done h
  | .withdraw k => .withdraw k

/-- A notice joins the list at the tail (R137). -/
def State.queueNotice (s : State) (n : Notice) : State := { s with nl := s.nl ++ [n] }

/-- A notice leaves the list from its place, the others keeping their order (R137). -/
def State.removeNotice (s : State) (r : NoticeRef) : State :=
  { s with nl := s.nl.filter fun n => n.ref != r }

/-- The notice of a reference, if it is on the list. -/
def State.notice? (s : State) (r : NoticeRef) : Option Notice := s.nl.find? fun n => n.ref == r

/-! The Local Port's frame and buffer -/

/-- The frame is treated as begun in RESET (R24). -/
def PortFrame.ofReset : PortFrame → Bool
  | .noFrame | .inProgress => false
  | .begunInReset | .cutByReset _ => true

/-- The response of a command replaces the buffer (R155). -/
def State.respond (s : State) (result : ResultCode) (code : Option Byte) (data : List Byte) : State :=
  { s with lp := { s.lp with buffer := { result := result, code := code, data := data } } }

/-- Latch or clear DROP (R164). -/
def State.setDrop (s : State) (b : Bool) : State :=
  { s with lp := { s.lp with alerts := { s.lp.alerts with drop := b } } }

/-- Latch or clear CONFLICT (R164). -/
def State.setConflict (s : State) (b : Bool) : State :=
  { s with lp := { s.lp with alerts := { s.lp.alerts with conflict := b } } }

/-- What the station drove on PBD in the bit times of a bus command (log 16). -/
def State.drove (s : State) (bits : List Bool) : State := { s with pins := { s.pins with pbdOut := bits } }

end Sys2Proof.Machine
end

