-- ==== Sys2Proof/Machine/Flags.lean ====
section
/-! DEFINITION. The conditions the station reports: TAKE eligibility, SRQ#, the FAIL alert, ALERT#, the status
word and the source sets. -/

namespace Sys2Proof.Machine

/-! TAKE eligibility (R112, R113) -/

/-- The entry whose handle is on top of the stack (R111). -/
def ServiceTable.top (t : ServiceTable) : Option Entry := t.stack.head?.map t.entry

/-- The nesting condition of R112 for an offer, against the top of the stack. -/
def ServiceTable.nests (t : ServiceTable) (o : HeldOffer) : Bool :=
  match t.top with
  | some (.occupied o' _) => o.cls < o'.cls || (o.cls == o'.cls && o.reentrant)
  | some .free => true
  | none => true

/-- The threshold, stack and nesting conditions of R112. -/
def ServiceTable.takeable (t : ServiceTable) (o : HeldOffer) : Bool :=
  decide (o.cls.toNat < t.threshold) && decide (t.stack.length < Config.stackLimit) && t.nests o

/-- The class and arrival position of entry h, if it is PENDING and eligible for TAKE (R112). -/
def ServiceTable.eligibleAt (t : ServiceTable) (h : Handle) : Option (HeldOffer × Nat) :=
  match t.entry h with
  | .occupied o (.pending p) => if t.takeable o then some (o, p) else none
  | _ => none

/-- The order of the PENDING entries: class, then arrival position (R110). -/
def earlier (a b : HeldOffer × Nat) : Bool :=
  a.1.cls < b.1.cls || (a.1.cls == b.1.cls && decide (a.2 < b.2))

/-- The eligible entries with their handles, in handle order (R112). -/
def ServiceTable.candidates (t : ServiceTable) : List (Handle × HeldOffer × Nat) :=
  allHandles.filterMap fun h => (t.eligibleAt h).map fun e => (h, e)

/-- The first in the order of R110. -/
def earliest : List (Handle × HeldOffer × Nat) → Option (Handle × HeldOffer × Nat)
  | [] => none
  | c :: cs =>
    match earliest cs with
    | none => some c
    | some b => if earlier b.2 c.2 then some b else some c

/-- The best eligible entry: the first eligible in the order of R110 (R113). -/
def ServiceTable.best (t : ServiceTable) : Option Handle := (earliest t.candidates).map fun c => c.1

/-! SRQ#, alerts and their pins -/

/-- SRQ# is low exactly when the station serves and PEEK would return an entry (R117). -/
def State.srqCondition (s : State) : Bool := s.sc.station.serves && s.svt.best.isSome

/-- Some source is FAILED (R79, R164). -/
def State.anyFailed (s : State) : Bool := allSources.any fun k => (s.source k).state == .failed

/-- The alert event set is nonempty (R166). -/
def Alerts.nonempty (a : Alerts) : Bool := a.fail || a.drop || a.conflict

/-- The end of an event: FAIL follows the sources (R164), SRQ# and ALERT# take the values of the state the
event leaves (R117, R166). -/
def State.settle (s : State) : State :=
  let alerts := { s.lp.alerts with fail := s.anyFailed }
  { s with
    lp := { s.lp with alerts := alerts },
    pins := { s.pins with srqLow := s.srqCondition, alertLow := alerts.nonempty } }

/-! The status word (R161, R191) -/

/-- The station state code (Table 10-10). -/
def StationState.code : StationState → Byte
  | .reset => 0
  | .config => 1
  | .join => 2
  | .run => 3
  | .parked => 4
  | .halt => 5

/-- The alert bits FAIL, DROP, CONFLICT in bits 2, 1, 0 (Tables 10-9 and 10-10). -/
def Alerts.byte (a : Alerts) : Byte := bitAt 2 a.fail ||| bitAt 1 a.drop ||| bitAt 0 a.conflict

/-- A count as a byte. -/
def countByte (n : Nat) : Byte := BitVec.ofNat 8 n

/-- Two four-bit fields in one byte, the first in bits 7–4. -/
def nibbles (hi lo : BitVec 4) : Byte := hi ++ lo

/-- The status word (Table 10-10). -/
def State.statusWord (s : State) : List Byte :=
  [ bitAt 4 s.sc.helloRetry.isSome ||| bitAt 3 s.sc.helloPending ||| s.sc.station.code,
    nibbles s.sc.id 0 ||| bitAt 3 s.pins.srqLow ||| s.lp.alerts.byte,
    countByte s.svt.load,
    countByte s.svt.stack.length,
    countByte s.svt.threshold,
    countByte s.st.ready.length,
    countByte s.nl.length ]

/-- A set of stations as two bytes, stations 15–8 first (10.3). -/
def maskBytes (m : StationMask) : List Byte := [m.extractLsb' 8 8, m.extractLsb' 0 8]

/-- A set of sources as three bytes, sources 23–16 first (10.5). -/
def sourceSetBytes (p : SourceIndex → Bool) : List Byte :=
  let byte (base : Nat) : Byte :=
    allSources.foldl (fun b k => if base ≤ k.val && k.val < base + 8 then b ||| bitAt (k.val - base) (p k) else b) 0
  [byte 16, byte 8, byte 0]

/-- The failed-source set (R162). -/
def State.failedSet (s : State) : List Byte := sourceSetBytes fun k => (s.source k).state == .failed

/-- The dropped-withdraw set (R162). -/
def State.droppedSet (s : State) : List Byte :=
  sourceSetBytes fun k => match (s.source k).state with
    | .withdrawing _ .dropped => true
    | _ => false

end Sys2Proof.Machine
end

