-- ==== Sys2Proof/Machine/Notices.lean ====
section
/-! DEFINITION. The Notice List and the owners of its notices (chapter 7). -/

namespace Sys2Proof.Machine

/-- The DONE notice of an entry that enters CLOSING (R121, R138). -/
def doneNotice (h : Handle) (o : HeldOffer) (c : DoneOutcome) : Notice :=
  { body := .done h c, addressee := o.origin, source := o.source, generation := o.generation, cls := o.cls,
    attempts := 0, holdOff := none }

/-- The WITHDRAW notice of a source that enters WITHDRAWING at station x (R75, R138). -/
def State.withdrawNotice (s : State) (k : SourceIndex) (x : StationId) : Notice :=
  { body := .withdraw k, addressee := x, source := k, generation := (s.source k).generation,
    cls := (s.route k).cls, attempts := 0, holdOff := none }

/-- Entry h, CLOSING, becomes FREE at the end of its DONE (R122). -/
def State.freeClosing (s : State) (h : Handle) : State :=
  match s.svt.entry h with
  | .occupied _ (.closing _) => { s with svt := s.svt.setEntry h .free }
  | _ => s

/-- Withdraw sent of source k, WITHDRAWING, becomes `w` at the end of its WITHDRAW (R76). -/
def State.setWithdrawSent (s : State) (k : SourceIndex) (w : WithdrawSent) : State :=
  match (s.source k).state with
  | .withdrawing x _ => s.setSource k { s.source k with state := .withdrawing x w }
  | _ => s

/-- The owner takes the end of a notice: acknowledged or dropped (R141, R143). -/
def State.ownerTakesEnd (s : State) (r : NoticeRef) (w : WithdrawSent) : State :=
  match r with
  | .done h => s.freeClosing h
  | .withdraw k => s.setWithdrawSent k w

/-- A notice is acknowledged (R141). -/
def State.noticeAcknowledged (s : State) (r : NoticeRef) : State :=
  match s.notice? r with
  | some _ => (s.removeNotice r).ownerTakesEnd r .acknowledged
  | none => s

/-- A notice is dropped: removed, DROP latched, its owner told (R143). -/
def State.dropNotice (s : State) (r : NoticeRef) : State :=
  ((s.removeNotice r).setDrop true).ownerTakesEnd r .dropped

/-- An unsuccessful attempt: the count rises; at the limit the notice is dropped, otherwise it moves to the
tail and its hold-off starts (R142, R143, R144). -/
def State.noticeUnsuccessful (s : State) (r : NoticeRef) : State :=
  match s.notice? r with
  | some n =>
    if Config.attemptLimit ≤ n.attempts + 1 then s.dropNotice r
    else (s.removeNotice r).queueNotice
      { n with attempts := n.attempts + 1, holdOff := some s.cs.retryDelay.toNat }
  | none => s

/-- One tick of a timer that counts station ticks: it stops at its Nth tick (R33, R70, R144). -/
def tickTimer : Option Nat → Option Nat
  | none => none
  | some t => if t ≤ 1 then none else some (t - 1)

/-- The hold-off timers of the list take one tick; no notice moves (R144). -/
def State.tickNotices (s : State) : State :=
  { s with nl := s.nl.map fun n => { n with holdOff := tickTimer n.holdOff } }

/-- A HELLO from station x removes the notices addressed to x (R147). -/
def State.removeNoticesTo (s : State) (x : StationId) : State :=
  { s with nl := s.nl.filter fun n => n.addressee != x }

/-- The frame of a notice (R136). -/
def State.noticeFrame (s : State) (n : Notice) : Frame :=
  match n.body with
  | .done _ c => .done s.sc.id n.cls n.addressee n.source n.generation c
  | .withdraw _ => .withdraw s.sc.id n.cls n.addressee n.source n.generation

/-- The oldest notice whose hold-off timer is stopped (R139). -/
def State.oldestNotice (s : State) : Option Notice := s.nl.find? fun n => n.holdOff.isNone

end Sys2Proof.Machine
end

