-- ==== Sys2Proof/Machine/Sources.lean ====
section
/-! DEFINITION. The Source Table's events (chapter 4). -/

namespace Sys2Proof.Machine

/-- Source k is routed SPREAD. -/
def State.isSpread (s : State) (k : SourceIndex) : Bool := (s.route k).mode == .spread

/-- Source k belongs to a LEVEL line. -/
def State.isLevel (s : State) (k : SourceIndex) : Bool :=
  match lineOf k with
  | some n => (s.setting n).level
  | none => false

/-- The LEVEL line of source k asks for a request: q active, armed, route enabled (R50; log 14). -/
def State.levelAsks (s : State) (k : SourceIndex) : Bool :=
  match lineOf k with
  | some n => (s.setting n).level && (s.line n).q && (s.line n).armed && (s.route k).enabled
  | none => false

/-- Source k enters READY with a new offer (R61, R63). -/
def State.enterReady (s : State) (k : SourceIndex) : State :=
  let r := s.source k
  (s.setSource k
    { state := .ready, generation := r.generation + 1, retry := 0, again := r.again, cancelPending := false,
      remaining := if s.isSpread k then some (s.route k).targetMask else none }).joinReadyList k

/-- Source k enters IDLE from another state, and a further request is taken at once where again is set or
its LEVEL line asks (R64). -/
def State.enterIdle (s : State) (k : SourceIndex) : State :=
  let r := s.source k
  let s := (s.leaveReadyList k).setSource k
    { state := .idle, generation := r.generation, retry := 0, again := false, cancelPending := false,
      remaining := none }
  if r.again || s.levelAsks k then s.enterReady k else s

/-- Set again on source k (R62). -/
def State.setAgain (s : State) (k : SourceIndex) : State := s.setSource k { s.source k with again := true }

/-- Set cancel pending on source k (R65). -/
def State.setCancelPending (s : State) (k : SourceIndex) : State :=
  s.setSource k { s.source k with cancelPending := true }

/-- A request event reaches source k (R63, Table 4-2). -/
def State.requestEvent (s : State) (k : SourceIndex) : State :=
  match (s.source k).state with
  | .idle => s.enterReady k
  | .ready => if s.offerInHand k && (s.source k).cancelPending then s.setAgain k else s
  | .offering => s.setAgain k
  | .backoff _ => s.setAgain k
  | .placed _ => s.setAgain k
  | .withdrawing _ _ => s.setAgain k
  | .failed => s

/-- Source k enters WITHDRAWING at station x and its notice is queued (R75). Cancel pending clears: it is set
in READY and OFFERING alone (Table 4-1; log 12). -/
def State.enterWithdrawing (s : State) (k : SourceIndex) (x : StationId) : State :=
  (s.setSource k { s.source k with state := .withdrawing x .no, cancelPending := false }).queueNotice
    (s.withdrawNotice k x)

/-- A withdraw event reaches source k (R72, Table 4-4). -/
def State.withdrawEvent (s : State) (k : SourceIndex) : State :=
  match (s.source k).state with
  | .idle => s
  | .ready => if s.offerInHand k then s.setCancelPending k else s.enterIdle k
  | .offering => s.setCancelPending k
  | .backoff _ => s.enterIdle k
  | .placed x => s.enterWithdrawing k x
  | .withdrawing _ _ => s
  | .failed => s

/-- CANCEL disarms the LEVEL line of source k where its route is enabled and q is active (R49). -/
def State.cancelDisarms (s : State) (k : SourceIndex) : State :=
  match lineOf k with
  | some n =>
    if (s.route k).enabled && (s.setting n).level && (s.line n).q then
      s.setLineState n { s.line n with armed := false }
    else s
  | none => s

/-- CANCEL acts on source k after the disarm and the clearing of again (R69, Table 4-3). -/
def State.cancelByState (s : State) (k : SourceIndex) : State :=
  match (s.source k).state with
  | .idle => s
  | .ready => if s.offerInHand k then s.setCancelPending k else s.enterIdle k
  | .offering => s.setCancelPending k
  | .backoff _ => s.enterIdle k
  | .placed x => s.enterWithdrawing k x
  | .withdrawing x .dropped =>
    (s.setSource k { s.source k with state := .withdrawing x .no }).queueNotice (s.withdrawNotice k x)
  | .withdrawing _ .no => s
  | .withdrawing _ .acknowledged => s
  | .failed => s.enterIdle k

/-- CANCEL of source k (R69). -/
def State.cancelSource (s : State) (k : SourceIndex) : State :=
  let s := s.cancelDisarms k
  (s.setSource k { s.source k with again := false }).cancelByState k

/-- Source k enters BACKOFF with retry count `retry` (R70). -/
def State.enterBackoff (s : State) (k : SourceIndex) (retry : Byte) : State :=
  s.setSource k { s.source k with state := .backoff s.cs.retryDelay.toNat, retry := retry }

/-- Source k enters FAILED with the retry count at the decline limit; again clears (R79). -/
def State.enterFailed (s : State) (k : SourceIndex) : State :=
  s.setSource k { s.source k with state := .failed, retry := s.cs.declineLimit, again := false }

/-- One more unsuccessful round would bring source k to a nonzero decline limit (R68, R71). -/
def State.roundFails (s : State) (k : SourceIndex) : Bool :=
  s.cs.declineLimit != 0 && (s.source k).retry.toNat + 1 == s.cs.declineLimit.toNat

/-- The retry count one higher, remaining at 255 (R68). -/
def nextRetry (r : Byte) : Byte := if r = 255 then 255 else r + 1

/-- A round of source k in which no station took the offer (R68; the last rows of R71). -/
def State.roundUnsuccessful (s : State) (k : SourceIndex) : State :=
  if s.roundFails k then s.enterFailed k else s.enterBackoff k (nextRetry (s.source k).retry)

/-- The arbitration report on the offer of source k (R65). -/
def State.offerArbitrated (s : State) (k : SourceIndex) (won : Bool) : State :=
  match (s.source k).state with
  | .ready =>
    if won then (s.leaveReadyList k).setSource k { s.source k with state := .offering }
    else if (s.source k).cancelPending then s.enterIdle k else s
  | _ => s

/-- The offer of source k is reported placed at station x (R67). -/
def State.offerPlaced (s : State) (k : SourceIndex) (x : StationId) : State :=
  match (s.source k).state with
  | .offering =>
    if (s.source k).cancelPending then
      (s.setSource k { s.source k with retry := 0 }).enterWithdrawing k x
    else s.setSource k { s.source k with state := .placed x, retry := 0 }
  | _ => s

/-- The DIRECT or POOL offer of source k is reported not placed, or discarded by ERR (R68). -/
def State.offerNotPlaced (s : State) (k : SourceIndex) : State :=
  match (s.source k).state with
  | .offering => if (s.source k).cancelPending then s.enterIdle k else s.roundUnsuccessful k
  | _ => s

/-- The SPREAD round of source k ends with the stations of `accepted` answering; a discard is a round with
none (R71). -/
def State.spreadRoundEnds (s : State) (k : SourceIndex) (accepted : StationMask) : State :=
  match (s.source k).state with
  | .offering =>
    let r := s.source k
    let left := r.remaining.map fun m => m &&& ~~~accepted
    let s := s.setSource k { r with remaining := left }
    if r.cancelPending then s.enterIdle k
    else if left.getD 0 == 0 then s.enterIdle k
    else if accepted != 0 then s.enterBackoff k r.retry
    else s.roundUnsuccessful k
  | _ => s

/-- A DONE matches source k (R73). -/
def State.doneMatches (s : State) (sender : StationId) (k : SourceIndex) (g : Generation) : Bool :=
  (s.source k).generation == g &&
    match (s.source k).state with
    | .placed x => x == sender
    | .withdrawing x _ => x == sender
    | _ => false

/-- A DONE is delivered to the Source Table; its outcome is not recorded (R73, R74). -/
def State.doneDelivered (s : State) (sender : StationId) (k : SourceIndex) (g : Generation) : State :=
  if s.doneMatches sender k g then (s.removeNotice (.withdraw k)).enterIdle k else s

/-- A HELLO from station x reaches source k (R77, R78). -/
def State.helloReleasesSource (x : StationId) (s : State) (k : SourceIndex) : State :=
  match (s.source k).state with
  | .placed y =>
    if y = x then
      let s := s.setSource k { s.source k with again := false }
      if s.isLevel k then s.enterIdle k else s.enterReady k
    else s
  | .withdrawing y _ => if y = x then (s.removeNotice (.withdraw k)).enterIdle k else s
  | _ => s

/-- A HELLO from station x reaches the Source Table, in ascending order of source index (R60, R77, R78). -/
def State.helloReleasesSources (s : State) (x : StationId) : State :=
  allSources.foldl (State.helloReleasesSource x) s

/-- The backoff timer of source k expires: the source enters READY, its record otherwise unchanged (R70). -/
def State.backoffExpires (s : State) (k : SourceIndex) : State :=
  (s.setSource k { s.source k with state := .ready }).joinReadyList k

/-- The backoff timer of source k takes one tick (R70). -/
def State.tickSource (s : State) (k : SourceIndex) : State :=
  match (s.source k).state with
  | .backoff t =>
    if t ≤ 1 then s.backoffExpires k else s.setSource k { s.source k with state := .backoff (t - 1) }
  | _ => s

/-- The backoff timer of source k expires at the next tick. -/
def State.backoffDue (s : State) (k : SourceIndex) : Bool :=
  match (s.source k).state with
  | .backoff t => decide (t ≤ 1)
  | _ => false

/-- The offer frame of source k, from its route and record as they stand (R57). -/
def State.offerFrame (s : State) (k : SourceIndex) : Frame :=
  let rt := s.route k
  let r := s.source k
  match rt.mode with
  | .direct => .direct s.sc.id rt.cls rt.targetId k r.generation rt.vector rt.reentrant
  | .pool => .pool s.sc.id rt.cls rt.targetMask s.cu.pointer k r.generation rt.vector rt.reentrant
  | .spread => .spread s.sc.id rt.cls (r.remaining.getD 0) k r.generation rt.vector

end Sys2Proof.Machine
end

