-- ==== Sys2Proof/Machine/Lines.lean ====
section
/-! DEFINITION. The Line Input Unit and the station tick (chapter 3). -/

namespace Sys2Proof.Machine

/-- What one tick makes of a line: its new state, and whether it gives a request edge (R48) or a withdraw
(R51). -/
structure LineStep where
  state : LineState
  edge : Bool
  withdraw : Bool
  deriving DecidableEq, Repr

/-- A pin is active when it is at its line's active level (R44). -/
def pinActive (c : LineSetting) (high : Bool) : Bool := high != c.activeLow

/-- The debounce count after a sample (R45, R46). -/
def nextCount (c : LineSetting) (l : LineState) (active : Bool) : Nat :=
  if c.debounce && active then min (l.count + 1) 4 else 0

/-- q after a sample: with debounce on, active at the fourth consecutive active sample (R45); with debounce
off, the sample (R46). -/
def nextQ (c : LineSetting) (l : LineState) (active : Bool) : Bool :=
  if c.debounce then active && decide (3 ≤ l.count) else active

/-- The arm flag after the entry sample and the re-arming rules, before a request edge (R47, R48, R49). -/
def nextArm (c : LineSetting) (l : LineState) (active : Bool) : Bool :=
  let entered := if l.entryDue && !c.level && active then false else l.armed
  if c.level then !nextQ c l active || entered else !active || entered

/-- One tick of one line with its sample (R44 to R51). -/
def lineStep (c : LineSetting) (l : LineState) (active : Bool) : LineStep :=
  let q := nextQ c l active
  let arm := nextArm c l active
  let edge := !c.level && !l.q && q && arm
  { state := { lastSample := active, q := q, count := nextCount c l active, armed := arm && !edge,
               entryDue := false },
    edge := edge,
    withdraw := c.level && l.q && !q }

/-- The events a line can deliver at a tick (R52). -/
inductive LineEvent where
  | request | withdraw
  deriving DecidableEq, Repr

/-- The event line n delivers at a tick whose step was `step`, its line state already written: a request
edge, a withdraw or a LEVEL request; none where its route is disabled (R48, R50, R51, R52). -/
def State.lineEvent (s : State) (n : LineIndex) (step : LineStep) : Option LineEvent :=
  let k := sourceOf n
  if !(s.route k).enabled then none
  else if step.edge then some .request
  else if step.withdraw then some .withdraw
  else if s.levelAsks k && (s.source k).state == .idle then some .request
  else none

/-- A line event reaches its source (R63, R72). -/
def State.takeLineEvent (s : State) (k : SourceIndex) : Option LineEvent → State
  | some .request => s.requestEvent k
  | some .withdraw => s.withdrawEvent k
  | none => s

/-- The step of line n at a tick with these pin levels. -/
def State.lineStepAt (s : State) (levels : BitVec 16) (n : LineIndex) : LineStep :=
  lineStep (s.setting n) (s.line n) (pinActive (s.setting n) (levels.getLsbD n.val))

/-- Source k at a tick: its line's event and its backoff timer. Where both a request and the timer's expiry
fall on it the order is free (R82; log 7); every other pair ends alike in either order. -/
def State.tickSourceWith (step : LineIndex → LineStep) (s : State) (k : SourceIndex) : State :=
  match (lineOf k).bind fun n => s.lineEvent n (step n), s.backoffDue k with
  | some .request, true =>
    if Config.requestFirst s.ticks k then (s.requestEvent k).tickSource k
    else (s.tickSource k).requestEvent k
  | event, _ => (s.takeLineEvent k event).tickSource k

/-- The HELLO retry timer takes one tick; at its expiry HELLO pending is set (R33). -/
def State.tickHello (s : State) : State :=
  match s.sc.helloRetry with
  | some t =>
    if t ≤ 1 then { s with sc := { s.sc with helloRetry := none, helloPending := true } }
    else { s with sc := { s.sc with helloRetry := some (t - 1) } }
  | none => s

/-- One station tick with these pin levels, delivered to the LIU, the Source Table, the Notice List and
Station Control (R42). The lines are updated first, then the sources take their events and timers in
ascending order of source index (R52, R60). -/
def State.tick (s : State) (levels : BitVec 16) : State :=
  let step := s.lineStepAt levels
  let lines := Vector.ofFn fun n => (step n).state
  let s := { s with
    liu := { lines := lines, prescaler := 0 },
    pins := { s.pins with lines := levels } }
  let s := (allSources.foldl (State.tickSourceWith step) s).tickNotices.tickHello
  { s with ticks := s.ticks + 1 }.settle

end Sys2Proof.Machine
end

