-- ==== Sys2Proof/Machine/Service.lean ====
section
/-! DEFINITION. The Service Table's events (chapter 6). -/

namespace Sys2Proof.Machine

/-- The in-service stack without handle h, the others keeping their order (R111). -/
def ServiceTable.unstack (t : ServiceTable) (h : Handle) : ServiceTable :=
  { t with stack := t.stack.filter fun j => j != h }

/-- Entry h enters CLOSING with its DONE queued (R121). -/
def State.enterClosing (s : State) (h : Handle) (o : HeldOffer) (c : DoneOutcome) : State :=
  ({ s with svt := s.svt.changeEntry h (.occupied o (.closing c)) }).queueNotice (doneNotice h o c)

/-- Entry h, on the stack, is completed: its handle leaves the stack; tracked and ACTIVE it enters CLOSING,
otherwise it becomes FREE (R119). The Boolean says whether a DONE was queued. -/
def State.completeHandle (s : State) (h : Handle) : State × Bool :=
  let s := { s with svt := s.svt.unstack h }
  match s.svt.entry h with
  | .occupied o (.active _) =>
    if o.tracked then (s.enterClosing h o .completed, true)
    else ({ s with svt := s.svt.changeEntry h .free }, false)
  | .occupied _ .detached => ({ s with svt := s.svt.changeEntry h .free }, false)
  | .occupied _ (.pending _) => (s, false)
  | .occupied _ (.closing _) => (s, false)
  | .free => (s, false)

/-- Entry h becomes ACTIVE and its handle goes on top of the stack (R116). -/
def State.activate (s : State) (h : Handle) : State :=
  match s.svt.entry h with
  | .occupied o _ =>
    let t := s.svt.changeEntry h (.occupied o (.active false))
    { s with svt := { t with stack := h :: t.stack } }
  | .free => s

/-- A WITHDRAW matches entry h (R124). -/
def ServiceTable.withdrawMatches (t : ServiceTable) (sender : StationId) (k : SourceIndex) (g : Generation)
    (h : Handle) : Bool :=
  match t.entry h with
  | .occupied o _ => o.tracked && o.origin == sender && o.source == k && o.generation == g
  | .free => false

/-- A matching WITHDRAW acts on entry h (R125). -/
def State.withdrawEntry (s : State) (h : Handle) : State :=
  match s.svt.entry h with
  | .occupied o (.pending _) => s.enterClosing h o .withdrawn
  | .occupied o (.active _) => { s with svt := s.svt.setEntry h (.occupied o (.active true)) }
  | .occupied _ .detached => s
  | .occupied _ (.closing _) => s
  | .free => s

/-- A WITHDRAW is delivered to the Service Table; one that matches no entry is ignored (R123 to R125). -/
def State.withdrawDelivered (s : State) (sender : StationId) (k : SourceIndex) (g : Generation) : State :=
  match allHandles.find? (s.svt.withdrawMatches sender k g) with
  | some h => s.withdrawEntry h
  | none => s

/-- A HELLO from origin x reaches entry h (R127). -/
def ServiceTable.helloReleases (x : StationId) (t : ServiceTable) (h : Handle) : ServiceTable :=
  match t.entry h with
  | .occupied o p =>
    if o.origin = x then
      match p with
      | .pending _ => t.changeEntry h .free
      | .active _ => t.changeEntry h (.occupied o .detached)
      | .detached => t
      | .closing _ => t.changeEntry h .free
    else t
  | .free => t

/-- A HELLO from station x is delivered: the Source Table re-offers or releases, the Service Table frees or
detaches, the Notice List drops what is addressed to x (R77, R78, R127, R147). The DONE of each entry freed
here is addressed to x (R121), so R147's removal takes it. -/
def State.helloDelivered (s : State) (x : StationId) : State :=
  let s := s.helloReleasesSources x
  ({ s with svt := allHandles.foldl (ServiceTable.helloReleases x) s.svt }).removeNoticesTo x

end Sys2Proof.Machine
end

