-- ==== Sys2Proof/Machine/Claims.lean ====
section
/-! DEFINITION. The Claim Unit: eligibility, reservation, claim words, installation (chapter 5). -/

namespace Sys2Proof.Machine

/-- Some occupied entry holds this origin and source (R89). -/
def ServiceTable.holds (t : ServiceTable) (origin : StationId) (k : SourceIndex) : Bool :=
  allHandles.any fun h => match t.entry h with
    | .occupied o _ => o.origin == origin && o.source == k
    | .free => false

/-- The FREE entry of lowest handle (R90). -/
def ServiceTable.lowestFree (t : ServiceTable) : Option Handle :=
  allHandles.find? fun h => t.entry h == .free

/-- The handle an eligible station reserves for an offer frame: the five conditions of R86, the room
condition being that there is one. -/
def State.eligibleHandle (s : State) (f : Frame) : Option Handle :=
  match f.offer with
  | some o =>
    if s.sc.station == .run && f.targets s.sc.id && decide (o.cls.toNat < s.svt.threshold)
        && !s.svt.holds o.origin o.source then s.svt.lowestFree
    else none
  | none => none

/-- The rank of a station under rotation pointer p (R93). -/
def claimRank (id p : StationId) : StationId := id - p - 1

/-- The claim word: load, rank, station ID (R93, Table 10-4). -/
def claimWord (load : Nat) (id p : StationId) : BitVec 14 := BitVec.ofNat 6 load ++ claimRank id p ++ id

/-- The response role of an eligible station (R85, R93). -/
def State.eligibleRole (s : State) (f : Frame) : ResponseRole :=
  match f with
  | .pool _ _ _ p _ _ _ _ => .claiming (claimWord s.svt.load s.sc.id p)
  | .direct _ _ _ _ _ _ _ => .accepting
  | .spread _ _ _ _ _ _ => .accepting
  | .hello _ => .declined
  | .done _ _ _ _ _ _ => .declined
  | .withdraw _ _ _ _ _ => .declined

/-- The decision on an offer frame (R85, R90). -/
def State.takeDecision (s : State) (f : Frame) : State :=
  match s.eligibleHandle f with
  | some h =>
    { s with
      cu := { s.cu with reservation := some h, role := s.eligibleRole f },
      pbe := { s.pbe with claim := match s.eligibleRole f with
        | .claiming _ => .claiming
        | .accepting => .notClaiming
        | .declined => .notClaiming
        | .noRole => .notClaiming } }
  | none => { s with cu := { s.cu with reservation := none, role := .declined } }

/-- The reserved entry becomes PENDING, last in arrival order (R100, R109). -/
def State.install (s : State) (o : HeldOffer) : State :=
  match s.cu.reservation with
  | some h => { s with svt := s.svt.setEntry h (.occupied o (.pending s.svt.pendingCount)) }
  | none => s

/-- The Claim Unit at a completion: it installs or releases its reservation, and its role ends (R91). -/
def State.closeClaim (s : State) (installs : Bool) (f : Frame) : State :=
  let s := match f.offer with
    | some o => if installs then s.install o else s
    | none => s
  { s with cu := { s.cu with reservation := none, role := .noRole } }

/-- The claim state after the claim-word window: a claimant that drove 1 and sampled 0 has lost (R18). -/
def claimOutcome (word sampled : BitVec 14) : ClaimState :=
  if (contend (fieldBits word) (fieldBits sampled)).1 then .won else .lost

/-- The result word read against the rotation pointer of the frame (R18). -/
def readResult (p : StationId) (word : BitVec 14) : Option StationId :=
  let load := (word.extractLsb' 8 6).toNat
  let rank := word.extractLsb' 4 4
  let id := word.extractLsb' 0 4
  if load ≤ 23 && rank == claimRank id p then some id else none

end Sys2Proof.Machine
end

