-- ==== Sys2Proof/Machine/Operands.lean ====
section
/-! DEFINITION. Reading the operands: what a span of PBD samples is to this station (chapter 1), and what a port
frame's bits are at the port (R153 to R156). -/

namespace Sys2Proof.Machine

/-! Spans of PBD samples from bit 11 on -/

/-- What the samples from bit 11 on show this station. -/
inductive SpanEnd where
  /-- The sender sampled 0 where it drove 1 (R11). -/
  | mismatch
  /-- The COMMIT bit sampled 1 (R13). -/
  | abandoned
  /-- The ERR bit sampled 0, or this station's check failed and it drove the bit 0 itself (R16, R10; log 10). -/
  | discarded
  /-- A frame of invalid kind whose ERR bit samples 1 (R9). -/
  | invalidEnd
  /-- A good frame with its content (R16). -/
  | good (f : Frame)
  /-- The samples end at none of these bits. -/
  | elsewhere
  deriving DecidableEq, Repr

/-- The bits from bit 11 to COMMIT that the sender of a frame drives. -/
def Frame.spanBits (f : Frame) : List Bool := f.sentBits.drop 11

/-- The samples as the sender of `f` takes them (R11, R13, R16): it compares up to COMMIT, then samples ERR. -/
def senderSpan (f : Frame) (samples : List Bool) : SpanEnd :=
  if !(contend f.spanBits samples).1 then .mismatch
  else if samples.length = f.spanBits.length + 1 then
    if samples.getLastD true then .good f else .discarded
  else .elsewhere

/-- The samples as a receiver takes them, `bits` being the frame from its SOF on (R9, R13, R15, R16). -/
def receiverSpan (bits : List Bool) : SpanEnd :=
  let kind := sampledKind bits
  if bits.length = kind.commitAt + 1 then
    if bits.getD kind.commitAt false then .abandoned else .elsewhere
  else if bits.length = kind.errAt + 1 then
    if bits.getD kind.commitAt false then .elsewhere
    else if !bits.getD kind.errAt true then .discarded
    else if kind = .invalid then .invalidEnd
    else match readFrame bits with
      | some f => .good f
      | none => .discarded
  else .elsewhere

/-- The station follows a frame whose arbitration field has ended and whose kind has not begun. -/
def State.afterArbitration (s : State) : Bool :=
  s.sc.station.takesPart && s.pbe.current.length == 11

/-- What the samples from bit 11 on show this station, by its role (log 11). -/
def State.spanEnd (s : State) (samples : List Bool) : SpanEnd :=
  if s.afterArbitration then
    match s.pbe.role, s.ts.inHand with
    | .sender, some h => senderSpan h.frame samples
    | .receiver, _ => receiverSpan (s.pbe.current ++ samples)
    | _, _ => .elsewhere
  else .elsewhere

/-- What this station drives over the samples from bit 11 on: the sender its frame, released after a mismatch
and at ERR; a receiver nothing, but for the ERR bit where its check failed (R8, R11, R15). -/
def State.spanDrive (s : State) (samples : List Bool) : List Bool :=
  match s.pbe.role, s.ts.inHand with
  | .sender, some h =>
    let d := (contend h.frame.spanBits samples).2
    d ++ List.replicate (samples.length - d.length) true
  | _, _ =>
    let bits := s.pbe.current ++ samples
    let err := (sampledKind bits).errAt
    List.replicate (samples.length - 1) true ++ [!(bits.length == err + 1 && checkFails bits)]

/-! Port frames -/

/-- The bits LSDO shifts out of the response buffer: result code, command code, data, then ones (R154, R190). -/
def ResultCode.byte : ResultCode → Byte
  | .ok => 0x00
  | .none => 0x01
  | .empty => 0x02
  | .badHandle => 0x10
  | .badArg => 0x11
  | .badLen => 0x12
  | .state => 0x13
  | .route => 0x14
  | .unknown => 0x15
  | .reset => 0x5A

/-- The bytes of a response in the order they are shifted out (R154, R190). -/
def Response.bytes (r : Response) : List Byte := r.result.byte :: (r.code.toList ++ r.data)

/-- The first `n` of these bits and then ones: what LSDO carries once it has no more bits to send (R24, R154). -/
def thenOnes (bits : List Bool) (n : Nat) : List Bool := bits.take n ++ List.replicate (n - bits.length) true

/-- The first `n` bits that LSDO carries of a response; after its last bit LSDO is held at 1 (R154). -/
def shiftOut (r : Response) (n : Nat) : List Bool := thenOnes (byteBits r.bytes) n

/-- The bit LSDO drives from LSCS# falling: the first of the response, and in RESET a 1 (R24, R154). -/
def State.firstBit (s : State) : Bool := s.sc.station == .reset || (s.lp.buffer.result.byte).msb

/-- The frame that ends now is treated as begun in RESET (R24, R156 check 1). -/
def State.frameOfReset (s : State) : Bool :=
  s.lp.frame.ofReset || s.sc.station == .reset

/-- What LSDO carries over the `n` bits of a frame of RESET: ones, and before them, where the entry to RESET cut
the frame after `before` bits, that much of the response it was shifting out (R24). -/
def State.resetShiftOut (s : State) (n before : Nat) : List Bool :=
  match s.lp.frame with
  | .cutByReset r => thenOnes (shiftOut r before) n
  | .noFrame | .inProgress | .begunInReset => List.replicate n true

/-- A frame of these bits is clocked to its end: the port has shifted the bits in and its buffer out, and LSDO is
high-impedance again (R153, R154). A frame of RESET shifts out ones, from its bit `before` on where the entry to
RESET cut it there (R24). The model holds none of its input bits and a clear overflow flag at its end; no rule says
what the port keeps of the bits clocked in RESET or after it (the model's choice, log 22). -/
def State.clockFrame (s : State) (bits : List Bool) (before : Nat := 0) : State :=
  let dead := s.frameOfReset
  { s with
    lp := { s.lp with
      frame := .noFrame,
      input := if dead then [] else bits.take Config.inputLimit,
      overflow := !dead && decide (Config.inputLimit < bits.length),
      outPosition := bits.length },
    pins := { s.pins with
      lsdo := none,
      lsdoOut := if dead then s.resetShiftOut bits.length before else shiftOut s.lp.buffer bits.length } }

end Sys2Proof.Machine
end

