-- ==== Sys2Proof/Machine/Bus.lean ====
section
/-! DEFINITION. The Peer Bus Engine and the Transmit Selector: shared operations of the bus commands
(chapter 1). -/

namespace Sys2Proof.Machine

/-- One sample while integrating (R3). Samples after the 96th recessive one are dropped: the operand ends with it
(the model's choice, log 20). -/
def integrateSample (count : Nat) (b : Bool) : Nat :=
  if Config.integrationLimit ≤ count then count else if b then count + 1 else 0

/-- One sample between frames (R4). Samples after the eleventh recessive one are dropped: the operand ends with it,
and later bit times are START_OPPORTUNITY's (the model's choice, log 20). -/
def idleSample (count : Nat) (b : Bool) : Nat :=
  if Config.idleLimit ≤ count then count else if b then count + 1 else 0

/-- The station leaves its frame: role, current frame, frame in hand, reservation and response role end, and
PBD is released (R22, R39, R91). -/
def State.leaveFrame (s : State) : State :=
  { s with
    ts := { inHand := none },
    pbe := { s.pbe with role := .noRole, current := [], claim := .notClaiming, driving := false },
    cu := { s.cu with reservation := none, role := .noRole } }

/-- A frame ends at this station and its idle count starts (R4, R20). -/
def State.endFrame (s : State) : State :=
  { s with
    ts := { inHand := none },
    pbe := { s.pbe with role := .noRole, current := [], claim := .notClaiming, driving := false, idleCount := 0 } }

/-- Entry to HALT by a CONFLICT: the frame, the frame in hand, the reservation and the response role end, and
everything else keeps its value (R39, R40). -/
def State.enterHalt (s : State) : State :=
  let s := s.leaveFrame.setConflict true
  { s with sc := { s.sc with station := .halt } }.settle

/-- A start opportunity: the station takes part, is synchronised, follows no frame and the bus is idle (R4). -/
def State.atStartOpportunity (s : State) : Bool :=
  s.sc.station.takesPart && s.pbe.synchronised && s.pbe.role == .noRole && s.pbe.idleCount == Config.idleLimit

/-- The frame the Transmit Selector chooses (R5). -/
def State.chooseFrame (s : State) : Option FrameInHand :=
  match s.sc.station with
  | .join => if s.sc.helloPending then some { item := .hello, frame := .hello s.sc.id } else none
  | .run | .parked =>
    match s.oldestNotice with
    | some n => some { item := .notice n.ref, frame := s.noticeFrame n }
    | none => s.st.ready.head?.map fun k => { item := .offer k, frame := s.offerFrame k }
  | .reset | .config | .halt => none

/-- The arbitration report reaches the owner of the frame in hand (R8, R65, R140); Station Control and the
Notice List change nothing. -/
def State.reportArbitration (s : State) (i : Item) (won : Bool) : State :=
  match i with
  | .hello => s
  | .notice _ => s
  | .offer k => s.offerArbitrated k won
  | .reported => s

/-- "Discarded by ERR" reaches the owner of the frame in hand (R16, R20, R33, R68, R71, R142). -/
def State.reportDiscard (s : State) (h : FrameInHand) : State :=
  match h.item with
  | .hello =>
    { s with sc := { s.sc with helloPending := false, helloRetry := some s.cs.retryDelay.toNat } }
  | .notice r => s.noticeUnsuccessful r
  | .offer k =>
    match h.frame.kind with
    | .spread => s.spreadRoundEnds k 0
    | _ => s.offerNotPlaced k
  | .reported => s

/-- The end of a notice's attempt reaches the Notice List (R20, R141, R142). -/
def State.reportNotice (s : State) (i : Item) (acknowledged : Bool) : State :=
  match i with
  | .notice r => if acknowledged then s.noticeAcknowledged r else s.noticeUnsuccessful r
  | .hello => s
  | .offer _ => s
  | .reported => s

/-- The item of the frame this station sends, if it is the sender. -/
def State.sentItem (s : State) : Option Item :=
  if s.pbe.role == .sender then s.ts.inHand.map fun h => h.item else none

/-- A good frame carries this station's ID and this station did not send it (R12, R21). -/
def State.foreignTwin (s : State) (f : Frame) : Bool := s.pbe.role != .sender && f.sender == s.sc.id

/-- The offer frame on which this station took its decision, as this station holds it (R85; log 11). -/
def State.decidedFrame (s : State) : Option Frame :=
  if s.sc.station.takesPart && s.cu.role != .noRole then
    match s.pbe.role, s.ts.inHand with
    | .sender, some h => some h.frame
    | .receiver, _ => readFrame s.pbe.current
    | _, _ => none
  else none

end Sys2Proof.Machine
end

