-- ==== Sys2Proof/Machine/Life.lean ====
section
/-! DEFINITION. Shared operations of the station's life cycle: entry to RESET, its end, entry to JOIN, and the
CLKIN period (chapter 2, R42). -/

namespace Sys2Proof.Machine

/-- Every block's run state at its full-reset value, which is its rejoin value too (Tables 1-1, 3-2, 4-1, 5-1,
6-1, R150). -/
def State.clearRunState (s : State) : State :=
  { s with
    liu := LineUnit.reset,
    st := SourceTable.reset,
    ts := { inHand := none },
    pbe := BusEngine.reset,
    cu := ClaimUnit.reset,
    svt := ServiceTable.reset,
    nl := [] }

/-- A port frame in progress at entry to RESET is dropped: it goes on as a frame begun in RESET, which had been
shifting out `r` (R24; log 6). -/
def PortFrame.afterReset (r : Response) : PortFrame → PortFrame
  | .noFrame => .noFrame
  | .inProgress => .cutByReset r
  | .begunInReset => .begunInReset
  | .cutByReset r => .cutByReset r

/-- LSDO after entry to RESET: it drives ones for the rest of a frame in progress (R24; log 5). -/
def State.lsdoInReset (s : State) : Option Bool :=
  match s.lp.frame with
  | .inProgress => some true
  | .noFrame | .begunInReset | .cutByReset _ => s.pins.lsdo

/-- Entry to RESET: every block takes its full-reset value, the outputs are released, the station ID keeps its
value until it is sampled again (R24, R26). -/
def State.enterReset (s : State) : State :=
  let s := s.clearRunState
  { s with
    sc := { station := .reset, id := s.sc.id, presence := 0, helloPending := false, helloRetry := none },
    cs := ConfigStore.reset,
    lp := { LocalPort.reset with frame := s.lp.frame.afterReset s.lp.buffer },
    pins := { s.pins with srqLow := false, alertLow := false, lsdo := s.lsdoInReset, pbdOut := [] } }

/-- End of full reset: the straps are sampled and the station enters CONFIG (R26). -/
def State.endReset (s : State) (straps : StationId) : State :=
  { s with
    sc := { s.sc with station := .config, id := straps },
    pins := { s.pins with straps := straps, resetLow := false, vddLow := false },
    resetPeriods := 0 }

/-- Entry to JOIN: run state cleared, HELLO pending, integration begun (R29, R38; log 13). -/
def State.enterJoin (s : State) : State :=
  let s := s.clearRunState
  { s with
    sc := { s.sc with station := .join, presence := 0, helloPending := true, helloRetry := none } }

/-- The CLKIN periods of one station tick (R42). -/
def State.tickPeriods (s : State) : Nat := 256 * s.cs.tickDivider.toNat

/-- One CLKIN period with nothing commanded: the prescaler counts and delivers a tick when it completes (R42);
a full reset begun by the RESET command counts down and ends (R25, R26; log 3). -/
def State.clkinPeriod (s : State) : State :=
  match s.sc.station with
  | .join | .run | .parked =>
    if s.tickPeriods ≤ s.liu.prescaler + 1 then s.tick s.pins.lines
    else { s with liu := { s.liu with prescaler := s.liu.prescaler + 1 } }
  | .reset =>
    if s.resetPeriods = 0 then s
    else if s.resetPeriods = 1 && !s.pins.resetLow && !s.pins.vddLow then s.endReset s.pins.straps
    else { s with resetPeriods := s.resetPeriods - 1 }
  | .config | .halt => s

end Sys2Proof.Machine
end

