-- ==== Sys2Proof/Machine/BoardEvents.lean ====
section
/-! DEFINITION. Meanings of the board and tick rows: resets, the station tick and the expiries that fall in it. -/

namespace Sys2Proof.Machine

/-- The outcome of a command of this block: always a next state. -/
abbrev Result := Host.Outcome State Fault Refusal

/-- POWER_UP (R24): VDD is below its limit and the station is held in RESET. No periods of a RESET command are
left over from before the power came (the model's choice, log 21). -/
def execPowerUp (s : State) : Result :=
  let s := s.enterReset
  .next { s with pins := { s.pins with vddLow := true }, resetPeriods := 0 }

/-- RESET_PIN_LOW (R24): RESET# goes low; a RESET command's periods run on (R25). -/
def execResetPinLow (s : State) : Result :=
  let s := s.enterReset
  .next { s with pins := { s.pins with resetLow := true } }

/-- VDD_BELOW_OPERATING_LIMIT (R24, R181). A RESET command's periods run on, R26 asking for them among its three
conditions; no rule names the case (the model's reading, log 21). -/
def execVddBelowOperatingLimit (s : State) : Result :=
  let s := s.enterReset
  .next { s with pins := { s.pins with vddLow := true } }

/-- END_OF_FULL_RESET (R26): in RESET the straps are sampled and the station enters CONFIG. -/
def execEndOfFullReset (straps : StationId) (s : State) : Result :=
  .next (if s.sc.station = .reset then s.endReset straps else s)

/-- STATION_TICK (R42): in JOIN, RUN and PARKED the prescaler completes and a tick is delivered. -/
def execStationTick (levels : BitVec 16) (s : State) : Result :=
  .next (if s.sc.station.takesPart then s.tick levels else s)

/-- DEBOUNCE_QUALIFIED (R45): line n's share of the tick that brings its fourth consecutive active sample, by
itself (log 8). -/
def execDebounceQualified (n : LineIndex) (s : State) : Result :=
  .next
    (if s.sc.station.takesPart && (s.setting n).debounce && (s.line n).count == 3 then
      let step := lineStep (s.setting n) (s.line n) true
      let bit : BitVec 16 := 1 <<< n.val
      let levels := if (s.setting n).activeLow then s.pins.lines &&& ~~~bit else s.pins.lines ||| bit
      let s := s.setLineState n step.state
      let s := { s with pins := { s.pins with lines := levels } }
      (s.takeLineEvent (sourceOf n) (s.lineEvent n step)).settle
    else s)

/-- BACKOFF_EXPIRY (R70): source k's share of the tick at which its backoff timer expires (log 8). -/
def execBackoffExpiry (k : SourceIndex) (s : State) : Result :=
  .next (if s.sc.station.takesPart && s.backoffDue k then (s.backoffExpires k).settle else s)

/-- HOLD_OFF_EXPIRY (R144): a notice's share of the tick at which its hold-off timer expires; the notice does
not move (log 8). -/
def execHoldOffExpiry (r : NoticeRef) (s : State) : Result :=
  .next
    (if s.sc.station.takesPart then
      { s with nl := s.nl.map fun n => if n.ref = r && n.holdOff = some 1 then { n with holdOff := none } else n }
    else s)

/-- HELLO_RETRY_EXPIRY (R33): Station Control's share of the tick at which the HELLO retry timer expires
(log 8). -/
def execHelloRetryExpiry (s : State) : Result :=
  .next
    (if s.sc.station.takesPart && s.sc.helloRetry == some 1 then
      { s with sc := { s.sc with helloRetry := none, helloPending := true } }
    else s)

end Sys2Proof.Machine
end

