-- ==== Sys2Proof/Machine/BusEvents.lean ====
section
/-! DEFINITION. Meanings of the Peer Bus rows. A row whose event the state and the samples do not bring changes
nothing (log 2). -/

namespace Sys2Proof.Machine

/-- INTEGRATION_COMPLETE (R3): an unsynchronised station counts consecutive recessive samples; at 96 it is
synchronised with the bus idle. -/
def execIntegrationComplete (samples : List Bool) (s : State) : Result :=
  .next
    (if s.sc.station.takesPart && !s.pbe.synchronised then
      let count := samples.foldl integrateSample s.pbe.integrationCount
      let done := decide (Config.integrationLimit ≤ count)
      let s := s.drove (samples.map fun _ => true)
      { s with pbe := { s.pbe with
          integrationCount := count,
          synchronised := done,
          idleCount := if done then Config.idleLimit else s.pbe.idleCount } }
    else s)

/-- BUS_IDLE (R4): a synchronised station between frames counts consecutive recessive samples up to 11. -/
def execBusIdle (samples : List Bool) (s : State) : Result :=
  .next
    (if s.sc.station.takesPart && s.pbe.synchronised && s.pbe.role == .noRole then
      let s := s.drove (samples.map fun _ => true)
      { s with pbe := { s.pbe with idleCount := samples.foldl idleSample s.pbe.idleCount } }
    else s)

/-- START_OPPORTUNITY (R4, R5, R6): the Transmit Selector chooses; a station with a frame in hand drives its
SOF and contends, another follows a dominant sample as a receiver. -/
def execStartOpportunity (sample : Bool) (s : State) : Result :=
  .next
    (if s.atStartOpportunity then
      match s.chooseFrame with
      | some h =>
        let s := s.drove [false]
        { s with
          ts := { inHand := some h },
          pbe := { s.pbe with role := .contender, current := [false], driving := true } }
      | none =>
        let s := s.drove [true]
        if sample then s
        else { s with pbe := { s.pbe with role := .receiver, current := [false], driving := false } }
    else s)

/-- ARBITRATION_REPORT (R7, R8): a contender that drove 1 against 0 has lost and becomes a receiver, one that
did not is the sender, and the owner of its item is told. -/
def execArbitrationReport (field : BitVec 10) (s : State) : Result :=
  .next
    (if s.sc.station.takesPart && s.pbe.current.length == 1 then
      match s.pbe.role, s.ts.inHand with
      | .contender, some h =>
        let contest := contend h.frame.arbitrationBits (fieldBits field)
        let s := s.drove contest.2
        let s := { s with
          ts := { inHand := if contest.1 then some h else none },
          pbe := { s.pbe with
            role := if contest.1 then .sender else .receiver,
            current := s.pbe.current ++ wiredAnd contest.2 (fieldBits field),
            driving := !contest.2.getLastD true } }
        (s.reportArbitration h.item contest.1).settle
      | .receiver, _ =>
        let s := s.drove (List.replicate 10 true)
        { s with pbe := { s.pbe with current := s.pbe.current ++ fieldBits field } }
      | _, _ => s
    else s)

/-- BIT_COMPARE_MISMATCH (R11): the sender latches CONFLICT, drops its frame without report and enters HALT. -/
def execBitCompareMismatch (samples : List Bool) (s : State) : Result :=
  .next
    (match s.spanEnd samples with
    | .mismatch => (s.drove (s.spanDrive samples)).enterHalt
    | _ => s)

/-- FRAME_ABANDONED (R13): COMMIT samples 1 and the frame is dropped. -/
def execFrameAbandoned (samples : List Bool) (s : State) : Result :=
  .next
    (match s.spanEnd samples with
    | .abandoned => (s.drove (samples.map fun _ => true)).endFrame
    | _ => s)

/-- DECISION (R85): at the end of the ERR bit of a good offer frame the Claim Unit decides. -/
def execDecision (samples : List Bool) (s : State) : Result :=
  .next
    (match s.spanEnd samples with
    | .good f =>
      if f.offer.isSome then
        let s := (s.drove (s.spanDrive samples)).takeDecision f
        { s with pbe := { s.pbe with current := s.pbe.current ++ samples, driving := false } }
      else s
    | _ => s)

/-- FRAME_DISCARDED_BY_ERR (R16, R20): the sender's item is reported discarded; listeners apply nothing. -/
def execFrameDiscardedByErr (samples : List Bool) (s : State) : Result :=
  .next
    (match s.spanEnd samples with
    | .discarded =>
      let s := s.drove (s.spanDrive samples)
      let s := match s.pbe.role, s.ts.inHand with
        | .sender, some h => s.reportDiscard h
        | _, _ => s
      s.endFrame.settle
    | _ => s)

/-- INVALID_KIND_FRAME_END (R9): the frame completes at its ERR bit and no block applies it. R9's "no block" is
taken before R12 and R21: the frame raises no CONFLICT where it carries this station's own ID (the model's choice,
log 19). -/
def execInvalidKindFrameEnd (samples : List Bool) (s : State) : Result :=
  .next
    (match s.spanEnd samples with
    | .invalidEnd => (s.drove (s.spanDrive samples)).endFrame
    | _ => s)

/-- The levels a station drives in a positional window: 0 in its own position if it answers (R19). -/
def positionDrive (answers : Bool) (id : StationId) : StationMask :=
  if answers then ~~~maskOnly id else BitVec.allOnes 16

/-- HELLO_COMPLETION (R19, R21): the sender takes its presence view and enters RUN (R32); a peer releases what
it holds for or from the sender; a twin enters HALT (R12). -/
def execHelloCompletion (samples : List Bool) (presence : StationMask) (s : State) : Result :=
  .next
    (match s.spanEnd samples with
    | .good (.hello x) =>
      let twin := s.foreignTwin (.hello x)
      let driven := positionDrive (!twin) s.sc.id
      let s := s.drove (s.spanDrive samples ++ fieldBits driven)
      if twin then s.enterHalt
      else
        let s := match s.pbe.role with
          | .sender =>
            { s with sc := { s.sc with
                presence := ~~~(presence &&& driven), helloPending := false, station := .run } }
          | .noRole | .contender | .receiver => s.helloDelivered x
        s.endFrame.settle
    | _ => s)

/-- DONE_COMPLETION (R20, R21): the sender's Notice List takes the ACK, the addressee drives it and its Source
Table takes the DONE (R73, R141, R142, R145); a twin enters HALT (R12). -/
def execDoneCompletion (samples : List Bool) (ack : Bool) (s : State) : Result :=
  .next
    (match s.spanEnd samples with
    | .good (.done x c a k g o) =>
      let mine := a == s.sc.id
      let twin := s.foreignTwin (.done x c a k g o)
      let s := s.drove (s.spanDrive samples ++ [!mine])
      if twin then s.enterHalt
      else
        let s := match s.sentItem with
          | some i => s.reportNotice i (mine || !ack)
          | none => s
        let s := if mine then s.doneDelivered x k g else s
        s.endFrame.settle
    | _ => s)

/-- WITHDRAW_COMPLETION (R20, R21): the sender's Notice List takes the ACK, the addressee drives it and its
Service Table takes the WITHDRAW (R123, R125, R141, R142, R145); a twin enters HALT (R12). -/
def execWithdrawCompletion (samples : List Bool) (ack : Bool) (s : State) : Result :=
  .next
    (match s.spanEnd samples with
    | .good (.withdraw x c a k g) =>
      let mine := a == s.sc.id
      let twin := s.foreignTwin (.withdraw x c a k g)
      let s := s.drove (s.spanDrive samples ++ [!mine])
      if twin then s.enterHalt
      else
        let s := match s.sentItem with
          | some i => s.reportNotice i (mine || !ack)
          | none => s
        let s := if mine then s.withdrawDelivered x k g else s
        s.endFrame.settle
    | _ => s)

/-- NOTICE_DROP (R143): the Notice List's share of the end of a notice's sixteenth unsuccessful attempt. The
frame is followed on, its outcome reported (log 9). -/
def execNoticeDrop (r : NoticeRef) (s : State) : Result :=
  .next
    (match s.sentItem, s.notice? r with
    | some (.notice r'), some n =>
      if s.sc.station.takesPart && r' == r && decide (Config.attemptLimit ≤ n.attempts + 1) then
        (s.dropNotice r).markReported.settle
      else s
    | _, _ => s)

/-- DIRECT_OFFER_COMPLETION (R92): an accepting target drove ACCEPT and installs; the sender's source is placed
at the target or not (R67, R68); a twin enters HALT (R12, R105). -/
def execDirectOfferCompletion (accept : Bool) (s : State) : Result :=
  .next
    (match s.decidedFrame with
    | some (.direct x c t k g v r) =>
      let f := Frame.direct x c t k g v r
      let accepts := s.cu.role == .accepting
      let twin := s.foreignTwin f
      let s := s.drove [!accepts]
      if twin then s.enterHalt
      else
        let item := s.sentItem
        let s := s.closeClaim accepts f
        let s := match item with
          | some (.offer j) => if accepts || !accept then s.offerPlaced j t else s.offerNotPlaced j
          | _ => s
        s.endFrame.settle
    | _ => s)

/-- POOL_OFFER_COMPLETION (R94, R96): a claimant that won installs, one that lost releases; the result word
read as an award sets the rotation pointer and places the sender's source (R18, R67, R68); a twin enters HALT
(R12, R105). -/
def execPoolOfferCompletion (word : BitVec 14) (s : State) : Result :=
  .next
    (match s.decidedFrame with
    | some (.pool x c m p k g v r) =>
      let f := Frame.pool x c m p k g v r
      let claim := match s.cu.role with
        | .claiming w => claimOutcome w word
        | .noRole | .declined | .accepting => .notClaiming
      let driven := match s.cu.role with
        | .claiming w => (contend (fieldBits w) (fieldBits word)).2
        | .noRole | .declined | .accepting => List.replicate 14 true
      let twin := s.foreignTwin f
      let s := s.drove driven
      if twin then s.enterHalt
      else
        let item := s.sentItem
        let s := (({ s with pbe := { s.pbe with claim := claim } } : State)).closeClaim (claim == .won) f
        let award := readResult p word
        let s := match award with
          | some w => { s with cu := { s.cu with pointer := w } }
          | none => s
        let s := match item, award with
          | some (.offer j), some w => s.offerPlaced j w
          | some (.offer j), none => s.offerNotPlaced j
          | _, _ => s
        s.endFrame.settle
    | _ => s)

/-- SPREAD_OFFER_COMPLETION (R98): an accepting station drove its position and installs an untracked entry; the
sender's source loses the stations that answered (R71); a twin enters HALT (R12, R105). -/
def execSpreadOfferCompletion (mask : StationMask) (s : State) : Result :=
  .next
    (match s.decidedFrame with
    | some (.spread x c m k g v) =>
      let f := Frame.spread x c m k g v
      let accepts := s.cu.role == .accepting
      let driven := positionDrive accepts s.sc.id
      let twin := s.foreignTwin f
      let s := s.drove (fieldBits driven)
      if twin then s.enterHalt
      else
        let item := s.sentItem
        let s := s.closeClaim accepts f
        let s := match item with
          | some (.offer j) => s.spreadRoundEnds j (~~~(mask &&& driven))
          | _ => s
        s.endFrame.settle
    | _ => s)

/-- SOURCE_FAILED (R79): the Source Table's share of the unsuccessful round that brings source k to the decline
limit. The frame is followed on, its outcome reported (log 9). -/
def execSourceFailed (k : SourceIndex) (s : State) : Result :=
  .next
    (if s.sc.station.takesPart && s.sentItem == some (.offer k) && (s.source k).state == .offering
        && !(s.source k).cancelPending && s.roundFails k then
      (s.enterFailed k).markReported.settle
    else s)

end Sys2Proof.Machine
end

