-- ==== Sys2Proof/WellFormed.lean ====
section
/-! DEFINITION. Which operands the wires can bring: the shape of a port frame and of a span of PBD samples.
The meanings do not depend on it (log 17). -/

namespace Sys2Proof

open Sys2Proof.Machine

/-- A port frame's bits after the last whole byte are fewer than eight (R153). -/
def PortTail.wellFormed (t : PortTail) : Bool := t.extra.length < 8

/-- The kind that a span beginning at bit 11 shows in its first three bits (R185). -/
def spanKind (samples : List Bool) : FrameKind := FrameKind.ofCode (sliceNat samples 0 3)

/-- The span runs from bit 11 to the ERR bit of a frame of one of the kinds (Table 10-1). -/
def spanToErr (kinds : List FrameKind) (samples : List Bool) : Bool :=
  kinds.contains (spanKind samples) && samples.length + 11 == (spanKind samples).errAt + 1

/-- The span runs from bit 11 to the COMMIT bit (Table 10-1). -/
def spanToCommit (samples : List Bool) : Bool :=
  3 ≤ samples.length && samples.length + 11 == (spanKind samples).commitAt + 1

/-- The span runs from bit 11 to a bit no later than the COMMIT bit of the longest frame (R11). -/
def spanWithinFrame (samples : List Bool) : Bool :=
  1 ≤ samples.length && samples.length + 11 ≤ FrameKind.pool.commitAt + 1

/-- The frame holds fewer than eight bits, or its first byte is no command code (R156 checks 3 and 4). -/
def unknownFrame (bits : List Bool) : Bool :=
  match (splitBytes bits).1 with
  | [] => 1 ≤ bits.length
  | c :: _ => !isCommandCode c

/-- The commands whose operands the wires can bring. -/
def Instr.wellFormed : Instr → Bool
  | .bitCompareMismatch sp => spanWithinFrame sp
  | .frameAbandoned sp => spanToCommit sp
  | .decision sp => spanToErr [.direct, .pool, .spread] sp
  | .frameDiscardedByErr sp =>
    spanToErr [.hello, .done, .withdraw, .direct, .pool, .spread, .invalid] sp
  | .helloCompletion sp _ => spanToErr [.hello] sp
  | .doneCompletion sp _ => spanToErr [.done] sp
  | .withdrawCompletion sp _ => spanToErr [.withdraw] sp
  | .invalidKindFrameEnd sp => spanToErr [.invalid] sp
  | .nop t | .readId t | .readStatus t | .readStation t | .readLine t | .readRoute t | .readSource t
  | .readEntry t | .readStack t | .readPresence t | .setStation t | .setLine t | .setRoute t | .commit t
  | .setThreshold t | .raise t | .cancel t | .ackAlert t | .rejoin t | .peek t | .take t | .complete t
  | .completeEntry t | .park t | .unpark t | .reset t => t.wellFormed
  | .unknownCommand bits => unknownFrame bits
  | .powerUp | .resetPinLow | .endOfFullReset _ | .stationTick _ | .debounceQualified _ | .backoffExpiry _
  | .holdOffExpiry _ | .helloRetryExpiry | .integrationComplete _ | .busIdle _ | .startOpportunity _
  | .arbitrationReport _ | .noticeDrop _ | .directOfferCompletion _ | .poolOfferCompletion _
  | .spreadOfferCompletion _ | .sourceFailed _ | .vddBelowOperatingLimit | .commandFrameBegins
  | .frameNotTaken _ => true

end Sys2Proof
end

