-- ==== Sys2Proof/Decode.lean ====
section
/-! DEFINITION. From bits to commands. The table gives no row any bits, so no word of it spells a command;
a Local Port frame does, by its code byte (R153, R156, R189), and `classifyFrame` reads it. -/

namespace Sys2Proof

open Sys2Proof.Machine

/-- The command a word spells by the table's bits: the table gives no row bits. -/
def decodeTableWord (_nbits _w : Nat) : Option Instr := none

/-- The row of a port frame with this code byte (Table 10-5). -/
def commandOf (code : Byte) (t : PortTail) : Option Instr :=
  match code.toNat with
  | 0x00 => some (.nop t)
  | 0x01 => some (.readId t)
  | 0x02 => some (.readStatus t)
  | 0x03 => some (.readStation t)
  | 0x04 => some (.readLine t)
  | 0x05 => some (.readRoute t)
  | 0x06 => some (.readSource t)
  | 0x07 => some (.readEntry t)
  | 0x08 => some (.readStack t)
  | 0x09 => some (.readPresence t)
  | 0x10 => some (.setStation t)
  | 0x11 => some (.setLine t)
  | 0x12 => some (.setRoute t)
  | 0x13 => some (.commit t)
  | 0x20 => some (.setThreshold t)
  | 0x21 => some (.raise t)
  | 0x22 => some (.cancel t)
  | 0x23 => some (.ackAlert t)
  | 0x24 => some (.rejoin t)
  | 0x30 => some (.peek t)
  | 0x31 => some (.take t)
  | 0x32 => some (.complete t)
  | 0x33 => some (.completeEntry t)
  | 0x34 => some (.park t)
  | 0x35 => some (.unpark t)
  | 0x3F => some (.reset t)
  | _ => none

/-- The row that the bits of a port frame are: no bits are not taken, a first byte that is no code or fewer
than eight bits are refused (R156). -/
def classifyFrame (bits : List Bool) : Instr :=
  match splitBytes bits with
  | ([], []) => .frameNotTaken { bits := [] }
  | ([], _ :: _) => .unknownCommand bits
  | (c :: bs, extra) => (commandOf c ⟨bs, extra⟩).getD (.unknownCommand bits)

/-- The code byte of a port command (Table 10-5). -/
def commandCode : Instr → Option (Byte × PortTail)
  | .nop t => some (0x00, t)
  | .readId t => some (0x01, t)
  | .readStatus t => some (0x02, t)
  | .readStation t => some (0x03, t)
  | .readLine t => some (0x04, t)
  | .readRoute t => some (0x05, t)
  | .readSource t => some (0x06, t)
  | .readEntry t => some (0x07, t)
  | .readStack t => some (0x08, t)
  | .readPresence t => some (0x09, t)
  | .setStation t => some (0x10, t)
  | .setLine t => some (0x11, t)
  | .setRoute t => some (0x12, t)
  | .commit t => some (0x13, t)
  | .setThreshold t => some (0x20, t)
  | .raise t => some (0x21, t)
  | .cancel t => some (0x22, t)
  | .ackAlert t => some (0x23, t)
  | .rejoin t => some (0x24, t)
  | .peek t => some (0x30, t)
  | .take t => some (0x31, t)
  | .complete t => some (0x32, t)
  | .completeEntry t => some (0x33, t)
  | .park t => some (0x34, t)
  | .unpark t => some (0x35, t)
  | .reset t => some (0x3F, t)
  | .powerUp | .resetPinLow | .endOfFullReset _ | .stationTick _ | .debounceQualified _ | .backoffExpiry _
  | .holdOffExpiry _ | .helloRetryExpiry | .integrationComplete _ | .busIdle _ | .startOpportunity _
  | .arbitrationReport _ | .bitCompareMismatch _ | .frameAbandoned _ | .decision _ | .frameDiscardedByErr _
  | .helloCompletion _ _ | .doneCompletion _ _ | .withdrawCompletion _ _ | .noticeDrop _
  | .directOfferCompletion _ | .poolOfferCompletion _ | .spreadOfferCompletion _ | .sourceFailed _
  | .unknownCommand _ | .vddBelowOperatingLimit | .invalidKindFrameEnd _ | .commandFrameBegins
  | .frameNotTaken _ => none

/-- The bits a frame of this code and tail shifts in on LSDI, first bit first (R153). -/
def portFrameBits (code : Byte) (t : PortTail) : List Bool := byteBits (code :: t.bytes) ++ t.extra

end Sys2Proof
end

