-- ==== Sys2Proof/Machine/Port.lean ====
section
/-! DEFINITION. The Local Port: taking a frame, the checks of Table 8-2, and the layouts of responses
(chapters 8 and 10). -/

namespace Sys2Proof.Machine

/-- Table 8-3: the station states that take a command code. -/
def admittedIn (code : Byte) (st : StationState) : Bool :=
  match code.toNat with
  | 0x10 | 0x11 | 0x12 | 0x13 => st == .config
  | 0x20 | 0x21 | 0x22 | 0x23 | 0x24 => st.takesPart
  | 0x30 | 0x31 | 0x32 | 0x33 => st.serves
  | 0x34 => st == .run
  | 0x35 => st == .parked
  | _ => st != .reset

/-- The number of bytes fits the code (R189, R156 check 5). -/
def byteCountFits (code : Byte) (n : Nat) : Bool :=
  match byteCount code with
  | some (lo, hi) => lo ≤ n && n ≤ hi
  | none => false

/-- What the port makes of a frame before a command's own checks (Table 8-2). -/
inductive Taking where
  | notTaken
  | refused (r : ResultCode)
  | taken
  deriving DecidableEq, Repr

/-- Checks 1 to 6 of Table 8-2 on a frame that begins with a command code. -/
def State.takeFrame (s : State) (code : Byte) (t : PortTail) : Taking :=
  if s.frameOfReset then .notTaken
  else if t.extra != [] || decide (Config.inputLimit < (portFrameBits code t).length) then .refused .badLen
  else if !isCommandCode code then .refused .unknown
  else if !byteCountFits code (t.bytes.length + 1) then .refused .badLen
  else if !admittedIn code s.sc.station then .refused .state
  else .taken

/-- What a command answers once its frame is taken: the state it leaves, result code and data (R155). -/
structure Reply where
  state : State
  result : ResultCode
  data : List Byte

/-- The command had its effect (R158). -/
def Reply.ok (s : State) (data : List Byte) : Reply := { state := s, result := .ok, data := data }

/-- The command is refused, or found nothing to act on: nothing changes and there is no data (R155, R158). -/
def Reply.without (s : State) (r : ResultCode) : Reply := { state := s, result := r, data := [] }

/-- A frame with command code `code` is taken at its LSCS# rising (R156); `body` is the command, given its
argument bytes and the state with the frame clocked through. -/
def State.portCommand (s : State) (code : Byte) (t : PortTail) (body : List Byte → State → Reply) : State :=
  let clocked := s.clockFrame (portFrameBits code t)
  match s.takeFrame code t with
  | .notTaken => clocked
  | .refused r => clocked.respond r (some code) []
  | .taken =>
    let reply := body t.bytes clocked
    reply.state.respond reply.result (some code) reply.data

/-- Argument byte i (R189). -/
def arg (bytes : List Byte) (i : Nat) : Byte := bytes.getD i 0

/-! Layouts (Tables 10-6 to 10-14) -/

/-- The settings byte (Table 10-6). -/
def LineSetting.byte (c : LineSetting) : Byte := bitAt 2 c.debounce ||| bitAt 1 c.level ||| bitAt 0 c.activeLow

/-- The line setting a settings byte gives; none where a reserved position is set (Table 10-6, R174). -/
def settingOfByte (b : Byte) : Option LineSetting :=
  if b &&& 0xF8 != 0 then none
  else some { activeLow := b.getLsbD 0, level := b.getLsbD 1, debounce := b.getLsbD 2 }

/-- The line state byte (Table 10-11). -/
def LineState.byte (l : LineState) : Byte :=
  (countByte l.count <<< 4) ||| bitAt 2 l.armed ||| bitAt 1 l.q ||| bitAt 0 l.lastSample

/-- The mode byte (Table 10-7). -/
def RouteMode.byte : RouteMode → Byte
  | .direct => 0
  | .pool => 1
  | .spread => 2

/-- The mode a mode byte names (Table 10-7). -/
def modeOfByte (b : Byte) : Option RouteMode :=
  match b.toNat with
  | 0 => some .direct
  | 1 => some .pool
  | 2 => some .spread
  | _ => none

/-- The seven argument bytes of SET-ROUTE after the index, for a stored entry (Table 10-9). -/
def Route.bytes (r : Route) : List Byte :=
  [r.mode.byte, r.cls.setWidth 8, r.vector, r.targetId.setWidth 8] ++ maskBytes r.targetMask
    ++ [bitAt 1 r.reentrant ||| bitAt 0 r.enabled]

/-- The source state code (Table 10-12). -/
def SourceState.code : SourceState → Byte
  | .idle => 0
  | .ready => 1
  | .offering => 2
  | .backoff _ => 3
  | .placed _ => 4
  | .withdrawing _ _ => 5
  | .failed => 6

/-- Placed-at, present in PLACED and WITHDRAWING (R58). -/
def SourceState.placedAt : SourceState → Option StationId
  | .placed x => some x
  | .withdrawing x _ => some x
  | _ => none

/-- The backoff timer, running in BACKOFF (R58). -/
def SourceState.backoffTicks : SourceState → Option Nat
  | .backoff t => some t
  | _ => none

/-- The withdraw sent field in bits 5–4 (Table 10-12). -/
def SourceState.sentBits : SourceState → Byte
  | .withdrawing _ .no => 0x10
  | .withdrawing _ .acknowledged => 0x20
  | .withdrawing _ .dropped => 0x30
  | _ => 0

/-- The source record as READ-SOURCE returns it (Table 10-12). -/
def SourceRecord.bytes (k : SourceIndex) (r : SourceRecord) : List Byte :=
  [ countByte k.val,
    bitAt 7 r.state.backoffTicks.isSome ||| bitAt 6 r.remaining.isSome ||| bitAt 5 r.state.placedAt.isSome
      ||| bitAt 4 r.cancelPending ||| bitAt 3 r.again ||| r.state.code,
    r.state.sentBits ||| r.generation.setWidth 8,
    r.retry,
    (r.state.placedAt.getD 0).setWidth 8,
    countByte (r.state.backoffTicks.getD 0) ] ++ maskBytes (r.remaining.getD 0)

/-- The phase bits of an entry's second byte: outcome, withdraw requested, state (Table 10-13). -/
def Phase.bits : Phase → Byte
  | .pending _ => 1
  | .active w => bitAt 5 w ||| 2
  | .detached => 3
  | .closing o => bitAt 6 (outcomeBit o) ||| 4

/-- The arrival position byte (Table 10-13). -/
def Phase.arrivalByte : Phase → Byte
  | .pending p => countByte p
  | _ => 0

/-- The entry record as READ-ENTRY returns it (Table 10-13). -/
def Entry.bytes (h : Handle) : Entry → List Byte
  | .free => [countByte h.val, 0, 0, 0, 0, 0, 0]
  | .occupied o p =>
    [ countByte h.val,
      bitAt 4 o.reentrant ||| bitAt 3 o.tracked ||| p.bits,
      nibbles o.origin o.generation,
      countByte o.source.val,
      o.cls.setWidth 8,
      o.vector,
      p.arrivalByte ]

/-- A slot of READ-STACK (Table 10-14). -/
def Entry.slot (h : Handle) : Entry → List Byte
  | .occupied o (.active w) => [bitAt 6 w ||| countByte h.val, o.cls.setWidth 8]
  | .occupied o .detached => [bitAt 7 true ||| countByte h.val, o.cls.setWidth 8]
  | .occupied o (.pending _) => [countByte h.val, o.cls.setWidth 8]
  | .occupied o (.closing _) => [countByte h.val, o.cls.setWidth 8]
  | .free => [countByte h.val, 0]

/-- The stack as READ-STACK returns it: depth, slots from the bottom, then FFh (Tables 10-9, 10-14). -/
def ServiceTable.stackBytes (t : ServiceTable) : List Byte :=
  countByte t.stack.length :: (t.stack.reverse.flatMap fun h => (t.entry h).slot h)
    ++ List.replicate (2 * (Config.stackLimit - t.stack.length)) 0xFF

/-- What PEEK and TAKE return of an entry (Table 10-9). -/
def Entry.peekBytes (h : Handle) : Entry → List Byte
  | .free => []
  | .occupied o _ =>
    [countByte h.val, o.vector, nibbles o.origin o.cls, bitAt 7 o.tracked ||| countByte o.source.val]

/-- What COMPLETE and COMPLETE-ENTRY return (Table 10-9). -/
def completeByte (h : Handle) (queued : Bool) : Byte := bitAt 7 queued ||| countByte h.val

end Sys2Proof.Machine
end

