-- ==== Sys2Proof/Machine/Reads.lean ====
section
/-! DEFINITION. Meanings of the port frame rows and of the read commands. -/

namespace Sys2Proof.Machine

/-- COMMAND_FRAME_BEGINS (R153): LSCS# falls, and LSDO drives its first bit (R154). With LSCS# low already it
cannot fall (log 2). -/
def execCommandFrameBegins (s : State) : Result :=
  .next
    (if s.lp.frame = .noFrame then
      { s with
        lp := { s.lp with
          frame := if s.sc.station = .reset then .begunInReset else .inProgress,
          input := [], overflow := false, outPosition := 0 },
        pins := { s.pins with lsdo := some s.firstBit, lsdoOut := [] } }
    else s)

/-- FRAME_NOT_TAKEN (R156 checks 1 and 2): a frame begun in RESET, or with no bit, ends with the buffer
unchanged. -/
def execFrameNotTaken (f : UntakenFrame) (s : State) : Result :=
  .next (if s.frameOfReset || f.bits.isEmpty then s.clockFrame f.bits f.beforeReset else s)

/-- UNKNOWN_COMMAND (R156 checks 1 to 4): no whole bytes give BADLEN, without a command code below eight bits;
a first byte that is no code gives UNKNOWN. Where the first byte is a code the frame is another row (log 2). -/
def execUnknownCommand (bits : List Bool) (s : State) : Result :=
  .next
    (if s.frameOfReset || bits.isEmpty then s.clockFrame bits
    else
      let overlong := decide (Config.inputLimit < bits.length)
      match splitBytes (bits.take Config.inputLimit) with
      | ([], _) => (s.clockFrame bits).respond .badLen none []
      | (c :: _, extra) =>
        if isCommandCode c then s
        else if extra != [] || overlong then (s.clockFrame bits).respond .badLen (some c) []
        else (s.clockFrame bits).respond .unknown (some c) [])

/-- NOP (R159): the padding is not read; the status word is returned. -/
def execNop (t : PortTail) (s : State) : Result :=
  .next (s.portCommand 0x00 t fun _ s => .ok s s.statusWord)

/-- READ_ID (R160). -/
def execReadId (t : PortTail) (s : State) : Result :=
  .next (s.portCommand 0x01 t fun _ s =>
    .ok s [Config.vendorCode, Config.partCode, Config.designLevel, s.sc.id.setWidth 8])

/-- READ_STATUS (R162). -/
def execReadStatus (t : PortTail) (s : State) : Result :=
  .next (s.portCommand 0x02 t fun _ s => .ok s (s.statusWord ++ s.failedSet ++ s.droppedSet))

/-- READ_STATION (R177). -/
def execReadStation (t : PortTail) (s : State) : Result :=
  .next (s.portCommand 0x03 t fun _ s => .ok s [s.cs.declineLimit, s.cs.retryDelay, s.cs.tickDivider])

/-- READ_LINE (R43, R163). -/
def execReadLine (t : PortTail) (s : State) : Result :=
  .next (s.portCommand 0x04 t fun bytes s =>
    if h : (arg bytes 0).toNat < 16 then
      let n : LineIndex := ⟨(arg bytes 0).toNat, h⟩
      .ok s [countByte n.val, (s.setting n).byte, (s.line n).byte]
    else .without s .badArg)

/-- READ_ROUTE (R178). -/
def execReadRoute (t : PortTail) (s : State) : Result :=
  .next (s.portCommand 0x05 t fun bytes s =>
    if h : (arg bytes 0).toNat < 24 then
      let k : SourceIndex := ⟨(arg bytes 0).toNat, h⟩
      .ok s (countByte k.val :: (s.route k).bytes)
    else .without s .badArg)

/-- READ_SOURCE (R58, R163). -/
def execReadSource (t : PortTail) (s : State) : Result :=
  .next (s.portCommand 0x06 t fun bytes s =>
    if h : (arg bytes 0).toNat < 24 then
      let k : SourceIndex := ⟨(arg bytes 0).toNat, h⟩
      .ok s ((s.source k).bytes k)
    else .without s .badArg)

/-- READ_ENTRY (R130). -/
def execReadEntry (t : PortTail) (s : State) : Result :=
  .next (s.portCommand 0x07 t fun bytes s =>
    if h : (arg bytes 0).toNat < 24 then
      let e : Handle := ⟨(arg bytes 0).toNat, h⟩
      .ok s ((s.svt.entry e).bytes e)
    else .without s .badArg)

/-- READ_STACK (R131). -/
def execReadStack (t : PortTail) (s : State) : Result :=
  .next (s.portCommand 0x08 t fun _ s => .ok s s.svt.stackBytes)

/-- READ_PRESENCE (R34). -/
def execReadPresence (t : PortTail) (s : State) : Result :=
  .next (s.portCommand 0x09 t fun _ s => .ok s (maskBytes s.sc.presence))

end Sys2Proof.Machine
end

