-- ==== Sys2Proof/Machine/Setup.lean ====
section
/-! DEFINITION. Meanings of the configuration and life-cycle commands of the port (chapters 2 and 9). -/

namespace Sys2Proof.Machine

/-- SET_STATION (R173). -/
def execSetStation (t : PortTail) (s : State) : Result :=
  .next (s.portCommand 0x10 t fun bytes s =>
    if arg bytes 1 = 0 then .without s .badArg
    else if arg bytes 2 = 0 then .without s .badArg
    else .ok { s with cs := { s.cs with
      declineLimit := arg bytes 0, retryDelay := arg bytes 1, tickDivider := arg bytes 2 } } [])

/-- SET_LINE (R174). -/
def execSetLine (t : PortTail) (s : State) : Result :=
  .next (s.portCommand 0x11 t fun bytes s =>
    if h : (arg bytes 0).toNat < 16 then
      match settingOfByte (arg bytes 1) with
      | none => .without s .badArg
      | some c => .ok { s with cs := { s.cs with lines := s.cs.lines.set (arg bytes 0).toNat c h } } []
    else .without s .badArg)

/-- The route entry that the argument bytes of SET-ROUTE carry, by the checks of R175 from order 2 on. -/
def routeOfBytes (bytes : List Byte) : Option Route :=
  match modeOfByte (arg bytes 1) with
  | none => none
  | some mode =>
    let mask : StationMask := arg bytes 5 ++ arg bytes 6
    let flags := arg bytes 7
    if 15 < (arg bytes 2).toNat then none
    else if 15 < (arg bytes 4).toNat then none
    else if mode != .direct && mask == 0 then none
    else if flags &&& 0xFC != 0 then none
    else some { enabled := flags.getLsbD 0, mode := mode, cls := (arg bytes 2).setWidth 4, vector := arg bytes 3,
                targetId := (arg bytes 4).setWidth 4, targetMask := mask, reentrant := flags.getLsbD 1 }

/-- SET_ROUTE (R175). -/
def execSetRoute (t : PortTail) (s : State) : Result :=
  .next (s.portCommand 0x12 t fun bytes s =>
    if h : (arg bytes 0).toNat < 24 then
      match routeOfBytes bytes with
      | none => .without s .badArg
      | some r => .ok { s with cs := { s.cs with routes := s.cs.routes.set (arg bytes 0).toNat r h } } []
    else .without s .badArg)

/-- COMMIT (R29). -/
def execCommit (t : PortTail) (s : State) : Result :=
  .next (s.portCommand 0x13 t fun _ s => .ok s.enterJoin.settle [])

/-- REJOIN (R38, R152): run state is reset and DROP clears; the port's frame items take their rejoin values. -/
def execRejoin (t : PortTail) (s : State) : Result :=
  .next (s.portCommand 0x24 t fun _ s =>
    let s := s.enterJoin.setDrop false
    let s := { s with lp := { s.lp with input := [], overflow := false, outPosition := 0 } }
    .ok s.settle [])

/-- PARK (R36). -/
def execPark (t : PortTail) (s : State) : Result :=
  .next (s.portCommand 0x34 t fun _ s =>
    .ok ({ s with sc := { s.sc with station := .parked } } : State).settle [])

/-- UNPARK (R37). -/
def execUnpark (t : PortTail) (s : State) : Result :=
  .next (s.portCommand 0x35 t fun _ s =>
    .ok ({ s with sc := { s.sc with station := .run } } : State).settle [])

/-- RESET (R25): a full reset of 16 CLKIN periods; no response of its own, the buffer holds RESET. -/
def execReset (t : PortTail) (s : State) : Result :=
  let clocked := s.clockFrame (portFrameBits 0x3F t)
  .next
    (match s.takeFrame 0x3F t with
    | .notTaken => clocked
    | .refused r => clocked.respond r (some 0x3F) []
    | .taken => { clocked.enterReset with resetPeriods := Config.resetCommandPeriods })

end Sys2Proof.Machine
end

