-- ==== Sys2Proof/Machine/Work.lean ====
section
/-! DEFINITION. Meanings of the commands that act on sources, entries and alerts (chapters 3, 4, 6 and 8). -/

namespace Sys2Proof.Machine

/-- SET_THRESHOLD (R114). -/
def execSetThreshold (t : PortTail) (s : State) : Result :=
  .next (s.portCommand 0x20 t fun bytes s =>
    if 16 < (arg bytes 0).toNat then .without s .badArg
    else .ok ({ s with svt := { s.svt with threshold := (arg bytes 0).toNat } } : State).settle [arg bytes 0])

/-- RAISE (R53). -/
def execRaise (t : PortTail) (s : State) : Result :=
  .next (s.portCommand 0x21 t fun bytes s =>
    if h : (arg bytes 0).toNat < 8 then
      let k : SourceIndex := ⟨16 + (arg bytes 0).toNat, by omega⟩
      if (s.route k).enabled then .ok (s.requestEvent k).settle [] else .without s .route
    else .without s .badArg)

/-- CANCEL (R69). -/
def execCancel (t : PortTail) (s : State) : Result :=
  .next (s.portCommand 0x22 t fun bytes s =>
    if h : (arg bytes 0).toNat < 24 then .ok (s.cancelSource ⟨(arg bytes 0).toNat, h⟩).settle []
    else .without s .badArg)

/-- ACK_ALERT (R165). -/
def execAckAlert (t : PortTail) (s : State) : Result :=
  .next (s.portCommand 0x23 t fun _ s =>
    let s := (s.setDrop false).settle
    .ok s [s.lp.alerts.byte])

/-- PEEK (R115). -/
def execPeek (t : PortTail) (s : State) : Result :=
  .next (s.portCommand 0x30 t fun _ s =>
    match s.svt.best with
    | some h => .ok s ((s.svt.entry h).peekBytes h)
    | none => .without s .none)

/-- TAKE (R116). -/
def execTake (t : PortTail) (s : State) : Result :=
  .next (s.portCommand 0x31 t fun _ s =>
    match s.svt.best with
    | some h =>
      let s := (s.activate h).settle
      .ok s ((s.svt.entry h).peekBytes h)
    | none => .without s .none)

/-- COMPLETE (R119). -/
def execComplete (t : PortTail) (s : State) : Result :=
  .next (s.portCommand 0x32 t fun _ s =>
    match s.svt.stack with
    | h :: _ =>
      let done := s.completeHandle h
      .ok done.1.settle [completeByte h done.2]
    | [] => .without s .empty)

/-- COMPLETE_ENTRY (R120). -/
def execCompleteEntry (t : PortTail) (s : State) : Result :=
  .next (s.portCommand 0x33 t fun bytes s =>
    if h : (arg bytes 0).toNat < 24 then
      let e : Handle := ⟨(arg bytes 0).toNat, h⟩
      if (s.svt.entry e).onStack then
        let done := s.completeHandle e
        .ok done.1.settle [completeByte e done.2]
      else .without s .badHandle
    else .without s .badArg)

end Sys2Proof.Machine
end

