-- ==== Sys2Proof/Machine/Dispatch.lean ====
section
/-! DEFINITION. One arm per command: each calls the command's meaning. -/

namespace Sys2Proof.Machine

/-- The effect of a command on everything but the queue. -/
def exec (i : Instr) (s : State) : Host.Outcome State Fault Refusal :=
  match i with
  | .powerUp => Sys2Proof.Machine.execPowerUp s
  | .resetPinLow => Sys2Proof.Machine.execResetPinLow s
  | .endOfFullReset straps => Sys2Proof.Machine.execEndOfFullReset straps s
  | .stationTick levels => Sys2Proof.Machine.execStationTick levels s
  | .debounceQualified n => Sys2Proof.Machine.execDebounceQualified n s
  | .backoffExpiry k => Sys2Proof.Machine.execBackoffExpiry k s
  | .holdOffExpiry r => Sys2Proof.Machine.execHoldOffExpiry r s
  | .helloRetryExpiry => Sys2Proof.Machine.execHelloRetryExpiry s
  | .integrationComplete samples => Sys2Proof.Machine.execIntegrationComplete samples s
  | .busIdle samples => Sys2Proof.Machine.execBusIdle samples s
  | .startOpportunity sample => Sys2Proof.Machine.execStartOpportunity sample s
  | .arbitrationReport field => Sys2Proof.Machine.execArbitrationReport field s
  | .bitCompareMismatch samples => Sys2Proof.Machine.execBitCompareMismatch samples s
  | .frameAbandoned samples => Sys2Proof.Machine.execFrameAbandoned samples s
  | .decision samples => Sys2Proof.Machine.execDecision samples s
  | .frameDiscardedByErr samples => Sys2Proof.Machine.execFrameDiscardedByErr samples s
  | .helloCompletion samples presence => Sys2Proof.Machine.execHelloCompletion samples presence s
  | .doneCompletion samples ack => Sys2Proof.Machine.execDoneCompletion samples ack s
  | .withdrawCompletion samples ack => Sys2Proof.Machine.execWithdrawCompletion samples ack s
  | .noticeDrop r => Sys2Proof.Machine.execNoticeDrop r s
  | .directOfferCompletion accept => Sys2Proof.Machine.execDirectOfferCompletion accept s
  | .poolOfferCompletion word => Sys2Proof.Machine.execPoolOfferCompletion word s
  | .spreadOfferCompletion mask => Sys2Proof.Machine.execSpreadOfferCompletion mask s
  | .sourceFailed k => Sys2Proof.Machine.execSourceFailed k s
  | .nop t => Sys2Proof.Machine.execNop t s
  | .readId t => Sys2Proof.Machine.execReadId t s
  | .readStatus t => Sys2Proof.Machine.execReadStatus t s
  | .readStation t => Sys2Proof.Machine.execReadStation t s
  | .readLine t => Sys2Proof.Machine.execReadLine t s
  | .readRoute t => Sys2Proof.Machine.execReadRoute t s
  | .readSource t => Sys2Proof.Machine.execReadSource t s
  | .readEntry t => Sys2Proof.Machine.execReadEntry t s
  | .readStack t => Sys2Proof.Machine.execReadStack t s
  | .readPresence t => Sys2Proof.Machine.execReadPresence t s
  | .setStation t => Sys2Proof.Machine.execSetStation t s
  | .setLine t => Sys2Proof.Machine.execSetLine t s
  | .setRoute t => Sys2Proof.Machine.execSetRoute t s
  | .commit t => Sys2Proof.Machine.execCommit t s
  | .setThreshold t => Sys2Proof.Machine.execSetThreshold t s
  | .raise t => Sys2Proof.Machine.execRaise t s
  | .cancel t => Sys2Proof.Machine.execCancel t s
  | .ackAlert t => Sys2Proof.Machine.execAckAlert t s
  | .rejoin t => Sys2Proof.Machine.execRejoin t s
  | .peek t => Sys2Proof.Machine.execPeek t s
  | .take t => Sys2Proof.Machine.execTake t s
  | .complete t => Sys2Proof.Machine.execComplete t s
  | .completeEntry t => Sys2Proof.Machine.execCompleteEntry t s
  | .park t => Sys2Proof.Machine.execPark t s
  | .unpark t => Sys2Proof.Machine.execUnpark t s
  | .reset t => Sys2Proof.Machine.execReset t s
  | .unknownCommand bits => Sys2Proof.Machine.execUnknownCommand bits s
  | .vddBelowOperatingLimit => Sys2Proof.Machine.execVddBelowOperatingLimit s
  | .invalidKindFrameEnd samples => Sys2Proof.Machine.execInvalidKindFrameEnd samples s
  | .commandFrameBegins => Sys2Proof.Machine.execCommandFrameBegins s
  | .frameNotTaken f => Sys2Proof.Machine.execFrameNotTaken f s

end Sys2Proof.Machine
end

