-- ==== Sys2Proof/Safety.lean ====
section
/-! DEFINITION. What the statements speak of: the state a port frame leaves, the state a full reset leaves, and
the invariants of the station. -/

namespace Sys2Proof

open Sys2Proof.Machine

/-! Classes of commands -/

/-- Table 8-3: the station states that take a command. -/
def Instr.takenIn : Instr → List StationState
  | .setStation _ | .setLine _ | .setRoute _ | .commit _ => [.config]
  | .setThreshold _ | .raise _ | .cancel _ | .ackAlert _ | .rejoin _ => [.join, .run, .parked]
  | .take _ | .peek _ | .complete _ | .completeEntry _ => [.run, .parked]
  | .park _ => [.run]
  | .unpark _ => [.parked]
  | .nop _ | .readId _ | .readStatus _ | .readRoute _ | .readLine _ | .readStation _ | .readSource _
  | .readEntry _ | .readStack _ | .readPresence _ | .reset _ => [.config, .join, .run, .parked, .halt]
  | _ => []

/-- The commands that arise on the Peer Bus or at a station tick, all of which need a station that takes part
(R2, R42). -/
def Instr.ofBusOrTick : Instr → Bool
  | .stationTick _ | .debounceQualified _ | .backoffExpiry _ | .holdOffExpiry _ | .helloRetryExpiry
  | .integrationComplete _ | .busIdle _ | .startOpportunity _ | .arbitrationReport _ | .bitCompareMismatch _
  | .frameAbandoned _ | .decision _ | .frameDiscardedByErr _ | .helloCompletion _ _ | .doneCompletion _ _
  | .withdrawCompletion _ _ | .noticeDrop _ | .directOfferCompletion _ | .poolOfferCompletion _
  | .spreadOfferCompletion _ | .sourceFailed _ | .invalidKindFrameEnd _ => true
  | _ => false

/-- The commands that begin a full reset whatever the station's state (R24). -/
def Instr.forcesReset : Instr → Bool
  | .powerUp | .resetPinLow | .vddBelowOperatingLimit => true
  | _ => false

end Sys2Proof

namespace Sys2Proof.Machine

/-! What an event leaves -/

/-- A frame that ends now is taken by the port: it did not begin in RESET, nor is the station there (R156). -/
abbrev State.portOpen (s : State) : Prop := s.lp.frame.ofReset = false ∧ s.sc.station ≠ .reset

/-- Everything that a port frame of these bits changes besides its command's effect: the frame is over and its
bits counted, the old response is shifted out, LSDO is high-impedance, and the new response stands in the buffer
(R153 to R155). -/
def State.answered (s : State) (bits : List Bool) (r : ResultCode) (code : Option Byte) (data : List Byte) : State :=
  { s with
    lp := { s.lp with
      frame := .noFrame,
      input := bits.take 256,
      overflow := decide (256 < bits.length),
      outPosition := bits.length,
      buffer := { result := r, code := code, data := data } },
    pins := { s.pins with lsdo := none, lsdoOut := shiftOut s.lp.buffer bits.length } }

/-- A frame of whole bytes is answered. -/
def State.answers (s : State) (bytes : List Byte) (r : ResultCode) (data : List Byte) : State :=
  s.answered (byteBits bytes) r bytes.head? data

/-- A port frame that is not taken is over; no input bits or overflow are held of it (log 22), LSDO carried ones,
after the first `before` bits of its response where the entry to RESET cut the frame there, and is high-impedance
(R24, R154, R156). -/
def State.ignored (s : State) (bits : List Bool) (before : Nat) : State :=
  { s with
    lp := { s.lp with frame := .noFrame, input := [], overflow := false, outPosition := bits.length },
    pins := { s.pins with
      lsdo := none,
      lsdoOut := match s.lp.frame with
        | .cutByReset r => (shiftOut r before).take bits.length ++ List.replicate (bits.length - before) true
        | _ => List.replicate bits.length true } }

/-- The record of source k becomes `r` and the ready list `ready`. -/
def State.putSource (s : State) (k : SourceIndex) (r : SourceRecord) (ready : List SourceIndex) : State :=
  { s with st := { records := s.st.records.set k.val r k.isLt, ready := ready } }

/-- The record of a source that enters READY with a new offer (R61, R63). -/
def State.newOffer (s : State) (k : SourceIndex) (again : Bool) : SourceRecord :=
  { state := .ready, generation := (s.source k).generation + 1, retry := 0, again := again, cancelPending := false,
    remaining := if (s.route k).mode = .spread then some (s.route k).targetMask else none }

/-- The record of a source in IDLE after an offer (R64). -/
def State.idleRecord (s : State) (k : SourceIndex) : SourceRecord :=
  { state := .idle, generation := (s.source k).generation, retry := 0, again := false, cancelPending := false,
    remaining := none }

/-- The ready list with source k at the tail of its class (R60). -/
abbrev State.readyWith (s : State) (k : SourceIndex) (before after : List SourceIndex) : Prop :=
  (∀ j ∈ before, (s.route j).cls ≤ (s.route k).cls) ∧ (∀ j ∈ after, (s.route k).cls < (s.route j).cls)

/-- The conditions of TAKE eligibility for the offer of a PENDING entry (R112). -/
def ServiceTable.mayTake (t : ServiceTable) (o : HeldOffer) : Prop :=
  o.cls.toNat < t.threshold ∧ t.stack.length < 8 ∧
    (t.stack = [] ∨ ∃ top rest l q, t.stack = top :: rest ∧ t.entry top = .occupied l q ∧
      (o.cls < l.cls ∨ o.cls = l.cls ∧ o.reentrant = true))

/-- Entry h is PENDING with this offer and arrival position, and eligible for TAKE (R112). -/
def ServiceTable.waits (t : ServiceTable) (h : Handle) (o : HeldOffer) (p : Nat) : Prop :=
  t.entry h = .occupied o (.pending p) ∧ t.mayTake o

/-- Entry h is the best eligible entry: of the eligible, the most urgent class, and of these the lowest arrival
position (R110, R113). -/
def ServiceTable.isBest (t : ServiceTable) (h : Handle) (o : HeldOffer) (p : Nat) : Prop :=
  t.waits h o p ∧ ∀ j o' p', t.waits j o' p' → j ≠ h → o.cls < o'.cls ∨ o.cls = o'.cls ∧ p < p'

/-- The five conditions of R86 for an offer frame. -/
def State.mayServe (s : State) (f : Frame) (o : HeldOffer) : Prop :=
  s.sc.station = .run ∧ f.targets s.sc.id = true ∧ (∃ h, s.svt.entry h = .free) ∧ o.cls.toNat < s.svt.threshold ∧
    ∀ h l q, s.svt.entry h = .occupied l q → ¬ (l.origin = o.origin ∧ l.source = o.source)

/-- What a station's part in a claim-word window comes to: whether it installs, and what it drove. It declined; or it
claimed and nowhere sampled 0 where it drove 1, so it has won even where a disturbance makes the sampled word another
than its own; or it claimed and sampled 0 at a bit it drove 1, releasing the line from the next bit (R18, R94). -/
def State.poolResponse (s : State) (word : BitVec 14) (installs : Bool) (driven : List Bool) : Prop :=
  (s.cu.role = .declined ∧ installs = false ∧ driven = List.replicate 14 true) ∨
  (∃ own, s.cu.role = .claiming own ∧ own &&& word = own ∧ installs = true ∧ driven = fieldBits own) ∨
  ∃ own kept a seen b, s.cu.role = .claiming own ∧ fieldBits own = kept ++ true :: a ∧
    fieldBits word = seen ++ false :: b ∧ kept.length = seen.length ∧
    (∀ p ∈ kept.zip seen, p.1 = true → p.2 = true) ∧ installs = false ∧ driven = kept ++ List.replicate (b.length + 1) true

/-- The frame of a well-formed item: a POOL or SPREAD offer names at least one station (R15, R175). -/
def Frame.namesSomeone : Frame → Prop
  | .pool _ _ m _ _ _ _ _ => m ≠ 0
  | .spread _ _ m _ _ _ => m ≠ 0
  | _ => True

/-- Layout of Table 10-12 as numbers. -/
def SourceRecord.layout (k : SourceIndex) (r : SourceRecord) : List Nat :=
  let code := match r.state with
    | .idle => 0 | .ready => 1 | .offering => 2 | .backoff _ => 3 | .placed _ => 4 | .withdrawing _ _ => 5
    | .failed => 6
  let timer := match r.state with | .backoff t => t | _ => 0
  let running := match r.state with | .backoff _ => 1 | _ => 0
  let at? := match r.state with | .placed x => x.toNat | .withdrawing x _ => x.toNat | _ => 0
  let held := match r.state with | .placed _ => 1 | .withdrawing _ _ => 1 | _ => 0
  let sent := match r.state with
    | .withdrawing _ .no => 1 | .withdrawing _ .acknowledged => 2 | .withdrawing _ .dropped => 3 | _ => 0
  let mask := (r.remaining.getD 0).toNat
  [ k.val,
    128 * running + 64 * r.remaining.isSome.toNat + 32 * held + 16 * r.cancelPending.toNat + 8 * r.again.toNat + code,
    16 * sent + r.generation.toNat, r.retry.toNat, at?, timer, mask / 256, mask % 256 ]

/-- Layout of Table 10-13 as numbers. -/
def Entry.layout (h : Handle) : Entry → List Nat
  | .free => [h.val, 0, 0, 0, 0, 0, 0]
  | .occupied o p =>
    let phase := match p with
      | .pending _ => 1
      | .active w => 32 * w.toNat + 2
      | .detached => 3
      | .closing .completed => 4
      | .closing .withdrawn => 68
    let arrival := match p with | .pending n => n | _ => 0
    [ h.val, phase + 16 * o.reentrant.toNat + 8 * o.tracked.toNat, 16 * o.origin.toNat + o.generation.toNat,
      o.source.val, o.cls.toNat, o.vector.toNat, arrival ]

/-- The slot of Table 10-14 for an entry on the stack, as numbers. -/
def Entry.slotLayout (h : Handle) : Entry → List Nat
  | .occupied o .detached => [128 + h.val, o.cls.toNat]
  | .occupied o (.active w) => [64 * w.toNat + h.val, o.cls.toNat]
  | .occupied o _ => [h.val, o.cls.toNat]
  | .free => [h.val, 0]

/-- Layout of Table 10-10 as numbers. -/
def State.statusLayout (s : State) : List Nat :=
  let code := match s.sc.station with
    | .reset => 0 | .config => 1 | .join => 2 | .run => 3 | .parked => 4 | .halt => 5
  [ 16 * s.sc.helloRetry.isSome.toNat + 8 * s.sc.helloPending.toNat + code,
    16 * s.sc.id.toNat + 8 * s.pins.srqLow.toNat + 4 * s.lp.alerts.fail.toNat + 2 * s.lp.alerts.drop.toNat
      + s.lp.alerts.conflict.toNat,
    s.svt.load, s.svt.stack.length, s.svt.threshold, s.st.ready.length, s.nl.length ]

/-- Numbers as bytes. -/
def asBytes (ns : List Nat) : List Byte := ns.map (BitVec.ofNat 8)

/-- A set of sources as three bytes, sources 23 to 16 first (Table 10-9): bit k mod 8 of byte 2 - k / 8. -/
def packsSources (bytes : List Byte) (p : SourceIndex → Prop) : Prop :=
  bytes.length = 3 ∧ ∀ k : SourceIndex, (bytes.getD (2 - k.val / 8) 0).getLsbD (k.val % 8) = true ↔ p k

/-- The station in RESET: every block at its full-reset value, the outputs released; the station ID, the input
pins, LSDO with the bits it carried, the model's tick counter and the queue stand (R24). -/
def State.fullyReset (s : State) (frame : PortFrame) : State :=
  { State.reset with
    sc := { State.reset.sc with id := s.sc.id },
    lp := { LocalPort.reset with frame := frame },
    pins := { s.pins with srqLow := false, alertLow := false, pbdOut := [] },
    resetPeriods := s.resetPeriods,
    ticks := s.ticks,
    pending := s.pending }

/-- The station in HALT: CONFLICT latched, the frame, the frame in hand, the reservation and the response role
gone, SRQ# released and ALERT# low; everything else as it was (R39). -/
def State.halted (s : State) (driven : List Bool) : State :=
  { s with
    sc := { s.sc with station := .halt },
    ts := { inHand := none },
    pbe := { s.pbe with role := .noRole, current := [], claim := .notClaiming, driving := false },
    cu := { s.cu with reservation := none, role := .noRole },
    lp := { s.lp with alerts := { s.lp.alerts with fail := s.anyFailed, conflict := true } },
    pins := { s.pins with srqLow := false, alertLow := true, pbdOut := driven } }

/-- The station between frames: no frame, nothing in hand, the idle count at 0 (R4, R20). -/
def State.betweenFrames (s : State) (driven : List Bool) : State :=
  { s with
    ts := { inHand := none },
    pbe := { s.pbe with role := .noRole, current := [], claim := .notClaiming, driving := false, idleCount := 0 },
    pins := { s.pins with pbdOut := driven } }

/-! Invariants -/

/-- SRQ# is low exactly when PEEK would return an entry (R117), ALERT# exactly when the alert event set is
nonempty (R166), FAIL stands exactly while a source is FAILED (R164), and LSDO is high-impedance exactly while no
port frame is in progress (R154). -/
structure PinsFollowState (s : State) : Prop where
  srq : s.pins.srqLow = s.srqCondition
  alert : s.pins.alertLow = s.lp.alerts.nonempty
  fail : s.lp.alerts.fail = s.anyFailed
  lsdo : s.pins.lsdo = none ↔ s.lp.frame = .noFrame

/-- CONFLICT is present exactly while the station is in HALT (R164). -/
def ConflictMeansHalt (s : State) : Prop := s.lp.alerts.conflict = true ↔ s.sc.station = .halt

/-- A stored route entry is usable: a POOL or SPREAD entry has a nonempty mask (R175). -/
def Route.usable (r : Route) : Prop := r.mode = .direct ∨ r.targetMask ≠ 0

/-- Every item of the Configuration Store holds a value within its range (R171). -/
def StoreInRange (s : State) : Prop :=
  s.cs.retryDelay ≠ 0 ∧ s.cs.tickDivider ≠ 0 ∧ ∀ k, (s.route k).usable

/-- A running timer of station ticks holds 1 to 255 of them (R33, R58, R136). -/
def timerInRange (t : Nat) : Prop := 1 ≤ t ∧ t ≤ 255

/-- Counters and timers within the ranges their tables give; the prescaler stands at 0 in RESET and CONFIG
(Tables 1-1, 2-3, 3-2, 4-1, 7-1, 8-1, R42, R114). -/
structure CountersInRange (s : State) : Prop where
  threshold : s.svt.threshold ≤ 16
  idleCount : s.pbe.idleCount ≤ 11
  integrationCount : s.pbe.integrationCount ≤ 96
  prescaler : s.liu.prescaler < 256 * s.cs.tickDivider.toNat
  prescalerHeld : s.sc.station = .reset ∨ s.sc.station = .config → s.liu.prescaler = 0
  debounce : ∀ n, (s.line n).count ≤ 4
  helloRetry : ∀ t, s.sc.helloRetry = some t → timerInRange t
  backoff : ∀ k t, (s.source k).state = .backoff t → timerInRange t
  attempts : ∀ n ∈ s.nl, n.attempts ≤ 15
  holdOff : ∀ n ∈ s.nl, ∀ t, n.holdOff = some t → timerInRange t
  inputBits : s.lp.input.length ≤ 256

/-- The ready list holds each READY source once and no other, the more urgent class first (R60); it is empty
before JOIN. -/
structure ReadyListRight (s : State) : Prop where
  members : ∀ k, k ∈ s.st.ready ↔ (s.source k).state = .ready
  once : s.st.ready.Nodup
  ordered : s.st.ready.Pairwise fun j k => (s.route j).cls ≤ (s.route k).cls
  emptyBeforeJoin : s.sc.station = .reset ∨ s.sc.station = .config → s.st.ready = []

/-- The states in which a SPREAD source has a remaining mask (Table 4-1). -/
def SourceState.keepsMask : SourceState → Bool
  | .ready | .offering | .backoff _ | .failed => true
  | .idle | .placed _ | .withdrawing _ _ => false

/-- The states in which a source is held at a servicer (Table 4-1). -/
def SourceState.isPlaced : SourceState → Bool
  | .placed _ | .withdrawing _ _ => true
  | .idle | .ready | .offering | .backoff _ | .failed => false

/-- A source record has the fields its state and routing give it (R58, Table 4-1; R62, R64, R71, R79, R80). -/
structure SourceRecordRight (s : State) (k : SourceIndex) : Prop where
  mask : (s.source k).remaining.isSome = (s.isSpread k && (s.source k).state.keepsMask)
  cancel : (s.source k).cancelPending = true → (s.source k).state = .ready ∨ (s.source k).state = .offering
  again : (s.source k).again = true → (s.source k).state ≠ .idle ∧ (s.source k).state ≠ .failed
  idleRetry : (s.source k).state = .idle → (s.source k).retry = 0
  tracked : (s.source k).state.isPlaced = true → s.isSpread k = false
  disabled : (s.route k).enabled = false → (s.source k).state = .idle

/-- Every source record is right, the offer in hand is of the kind its route names (R57), and before JOIN every
source is IDLE with nothing in hand. -/
structure SourcesRight (s : State) : Prop where
  records : ∀ k, SourceRecordRight s k
  inHand : ∀ k f, s.ts.inHand = some { item := .offer k, frame := f } → (f.kind = .spread ↔ s.isSpread k = true)
  idleBeforeJoin : s.sc.station = .reset ∨ s.sc.station = .config →
    s.ts.inHand = none ∧ ∀ k, (s.source k).state = .idle

/-- Between its decision and the end of the frame the Claim Unit's answer stands: the station follows an offer
past its ERR bit, and an accepting or claiming station holds a FREE entry for an offer that no occupied entry
holds already; a station that does not answer holds no reservation (R85 to R91). -/
structure ClaimRight (s : State) : Prop where
  silent : s.cu.role = .noRole ∨ s.cu.role = .declined → s.cu.reservation = none
  following : s.cu.role ≠ .noRole →
    s.sc.station.takesPart = true ∧ 11 < s.pbe.current.length ∧ (s.pbe.role = .sender ∨ s.pbe.role = .receiver)
  answering : s.cu.reservation.isSome = true →
    ∃ f o h, s.decidedFrame = some f ∧ f.offer = some o ∧ s.cu.reservation = some h ∧
      s.svt.entry h = .free ∧ s.svt.holds o.origin o.source = false

/-- No two occupied entries share an origin and a source (R89). -/
def NoDuplicateEntries (s : State) : Prop :=
  ∀ h j o p o' p', s.svt.entry h = .occupied o p → s.svt.entry j = .occupied o' p' →
    o.origin = o'.origin → o.source = o'.source → h = j

/-- Upper entry, lower entry: classes do not decrease downward, and a shared class needs a reentrant upper one
(R111). -/
def HeldOffer.above (u l : HeldOffer) : Prop := u.cls < l.cls ∨ u.cls = l.cls ∧ u.reentrant = true

/-- The in-service stack holds each ACTIVE or DETACHED entry once and no other, at most 8 of them, in the class
order of R111 (R108, R111). -/
structure StackRight (s : State) : Prop where
  members : ∀ h, h ∈ s.svt.stack ↔ (s.svt.entry h).onStack = true
  once : s.svt.stack.Nodup
  depth : s.svt.stack.length ≤ 8
  nested : s.svt.stack.Pairwise fun h j => ∀ u p l q,
    s.svt.entry h = .occupied u p → s.svt.entry j = .occupied l q → u.above l

/-- The arrival positions of the n PENDING entries are 0 to n - 1, each used once (R109). -/
structure ArrivalsRight (s : State) : Prop where
  bounded : ∀ h o p, s.svt.entry h = .occupied o (.pending p) → p < s.svt.pendingCount
  once : ∀ h j o o' p, s.svt.entry h = .occupied o (.pending p) → s.svt.entry j = .occupied o' (.pending p) → h = j

/-- The notices and their owners match: one DONE for each CLOSING entry and one WITHDRAW for each WITHDRAWING
source whose notice has not ended, each with the fields of its record (R75, R121, R136, R137). -/
structure NoticesMatch (s : State) : Prop where
  once : (s.nl.map Notice.ref).Nodup
  done : ∀ h, (∃ o c, s.svt.entry h = .occupied o (.closing c)) ↔ ∃ n ∈ s.nl, n.ref = .done h
  withdraw : ∀ k, (∃ x, (s.source k).state = .withdrawing x .no) ↔ ∃ n ∈ s.nl, n.ref = .withdraw k
  doneFields : ∀ n ∈ s.nl, ∀ h c, n.body = .done h c → ∃ o, s.svt.entry h = .occupied o (.closing c) ∧
    o.tracked = true ∧ n.addressee = o.origin ∧ n.source = o.source ∧ n.generation = o.generation ∧ n.cls = o.cls
  withdrawFields : ∀ n ∈ s.nl, ∀ k, n.body = .withdraw k →
    (s.source k).state = .withdrawing n.addressee .no ∧ n.source = k ∧
      n.generation = (s.source k).generation ∧ n.cls = (s.route k).cls
  emptyBeforeJoin : s.sc.station = .reset ∨ s.sc.station = .config → s.nl = []

/-- The transitions of Table 2-2, and staying. -/
def legalTransition : StationState → StationState → Bool
  | _, .reset => true
  | .reset, .config => true
  | .config, .join => true
  | .join, .run => true
  | .run, .parked => true
  | .parked, .run => true
  | .join, .join | .run, .join | .parked, .join => true
  | .join, .halt | .run, .halt | .parked, .halt => true
  | a, b => a == b

end Sys2Proof.Machine
end

