-- ==== Sys2Proof/Certificates/Slice0/Obligations.lean ====
section
/-! DEFINITION. The statements for the provers. Each command's statement says the whole next state, so it is its
frame as well: a field that the right-hand side does not name stands as before. `State.answers` is what a port
frame changes besides its command's effect, and `State.settle` re-evaluates FAIL, SRQ# and ALERT# at the end of
an event (see PinsStayRight). -/

open Sys2Proof Sys2Proof.Machine

/-! The step and the queue -/

/-- Step runs the command at the front of the queue on the queue's rest. -/
def Obligations.StepRunsTheFrontCommand : Prop :=
  ∀ (c : Instr) (s : State), step { s with pending := c :: s.pending } = exec c s

/-- On an empty queue a step is one CLKIN period (the model's choice, log 3): the prescaler counts and completes
in a STATION_TICK (R42), a RESET command's periods run down to an END_OF_FULL_RESET (R25, R26), and CONFIG and
HALT stand still. -/
def Obligations.EmptyQueueStepIsOneClkinPeriod : Prop :=
  ∀ s : State, s.pending = [] →
    (s.sc.station.takesPart = true → s.liu.prescaler + 1 < 256 * s.cs.tickDivider.toNat →
      step s = .next { s with liu := { s.liu with prescaler := s.liu.prescaler + 1 } }) ∧
    (s.sc.station.takesPart = true → 256 * s.cs.tickDivider.toNat ≤ s.liu.prescaler + 1 →
      step s = exec (.stationTick s.pins.lines) s) ∧
    (s.sc.station = .config ∨ s.sc.station = .halt → step s = .next s) ∧
    (s.sc.station = .reset → s.resetPeriods = 0 → step s = .next s) ∧
    (s.sc.station = .reset → 1 < s.resetPeriods →
      step s = .next { s with resetPeriods := s.resetPeriods - 1 }) ∧
    (s.sc.station = .reset → s.resetPeriods = 1 → s.pins.resetLow = false → s.pins.vddLow = false →
      step s = exec (.endOfFullReset s.pins.straps) s)

/-- Every command answers a next state in every state, and leaves the queue to the step. -/
def Obligations.EveryCommandAnswersNextAndKeepsTheQueue : Prop :=
  ∀ (c : Instr) (s : State), ∃ t, exec c s = .next t ∧ t.pending = s.pending

/-! Reset -/

/-- The full-reset values of every block (Tables 1-1, 2-3, 3-2, 4-1, 5-1, 6-1, 8-1, 9-1). -/
def Obligations.ResetValues : Prop :=
  State.reset.sc.station = .reset ∧ State.reset.sc.presence = 0 ∧ State.reset.sc.helloPending = false ∧
  State.reset.sc.helloRetry = none ∧
  State.reset.cs.declineLimit = 8 ∧ State.reset.cs.retryDelay = 4 ∧ State.reset.cs.tickDivider = 16 ∧
  (∀ n, State.reset.setting n = { activeLow := false, level := false, debounce := false }) ∧
  (∀ k, State.reset.route k = {
    enabled := false, mode := .direct, cls := 15, vector := 0, targetId := 0,
    targetMask := 0, reentrant := false }) ∧
  (∀ n, State.reset.line n = { lastSample := false, q := false, count := 0, armed := true, entryDue := true }) ∧
  State.reset.liu.prescaler = 0 ∧
  (∀ k, State.reset.source k = {
    state := .idle, generation := 0, retry := 0, again := false,
    cancelPending := false, remaining := none }) ∧
  State.reset.st.ready = [] ∧ State.reset.ts.inHand = none ∧
  State.reset.pbe = {
    synchronised := false, integrationCount := 0, idleCount := 0, role := .noRole, current := [],
    claim := .notClaiming, driving := false } ∧
  State.reset.cu = { pointer := 15, reservation := none, role := .noRole } ∧
  (∀ h, State.reset.svt.entry h = .free) ∧ State.reset.svt.stack = [] ∧ State.reset.svt.threshold = 16 ∧
  State.reset.nl = [] ∧
  State.reset.lp = {
    frame := .noFrame, input := [], overflow := false, outPosition := 0,
    buffer := { result := .reset, code := none, data := [] },
    alerts := { fail := false, drop := false, conflict := false } } ∧
  State.reset.pins.srqLow = false ∧ State.reset.pins.alertLow = false

/-- POWER_UP, RESET_PIN_LOW and VDD_BELOW_OPERATING_LIMIT put the station in RESET from every state (R24); a port
frame in progress goes on as one begun in RESET (log 6), the response it was shifting out is kept for the bits LSDO
has carried, and LSDO drives 1 (log 5). What is left of a RESET command's periods stands, but for POWER_UP (log 21).

RESET, taken in every state but RESET, resets every block and starts 16 CLKIN periods; the buffer holds RESET
and the frame has shifted the old response out (R25). -/
def Obligations.FullResetResetsEveryBlock : Prop :=
  (∀ s : State,
      let r := s.fullyReset (match s.lp.frame with
        | .inProgress => .cutByReset s.lp.buffer
        | f => f)
      let t := if s.lp.frame = .inProgress then { r with pins := { r.pins with lsdo := some true } } else r
      exec .powerUp s = .next { t with pins := { t.pins with vddLow := true }, resetPeriods := 0 } ∧
      exec .resetPinLow s = .next { t with pins := { t.pins with resetLow := true } } ∧
      exec .vddBelowOperatingLimit s = .next { t with pins := { t.pins with vddLow := true } }) ∧
  (∀ s : State, s.portOpen →
      exec (.reset ⟨[], []⟩) s =
        .next { s.fullyReset .noFrame with
          pins := { (s.fullyReset .noFrame).pins with lsdo := none, lsdoOut := shiftOut s.lp.buffer 8 },
          resetPeriods := 16 })

/-- At the end of full reset the straps become the station ID and the station enters CONFIG (R26); outside RESET
there is no reset to end (log 2).

A RESET command's reset ends at the sixteenth CLKIN period that follows with the pins high (R25, R26; that a
step on an empty queue is a CLKIN period is log 3). -/
def Obligations.FullResetEnds : Prop :=
  (∀ (s : State) (straps : StationId),
      (s.sc.station = .reset → exec (.endOfFullReset straps) s = .next { s with
        sc := { s.sc with station := .config, id := straps },
        pins := { s.pins with straps := straps, resetLow := false, vddLow := false },
        resetPeriods := 0 }) ∧
      (s.sc.station ≠ .reset → exec (.endOfFullReset straps) s = .next s)) ∧
  (∀ s : State, s.sc.station = .reset → s.resetPeriods = 16 → s.pins.resetLow = false → s.pins.vddLow = false →
      s.pending = [] →
      (∀ n, n < 16 → ∃ t, Sys2Proof.core.run n s = .next t ∧ t.sc.station = .reset) ∧
      Sys2Proof.core.run 16 s = .next { s with
        sc := { s.sc with station := .config, id := s.pins.straps }, resetPeriods := 0 })

/-! The station tick -/

/-- STATION_TICK updates every line by R44 to R49: the sample, the debounce count and q, the arm flag, the entry
sample; it returns the prescaler to 0 and takes one tick off the HELLO retry timer and every hold-off timer. -/
def Obligations.StationTickUpdatesLinesAndTimers : Prop :=
  ∀ (s : State) (levels : BitVec 16), s.sc.station.takesPart = true →
    ∃ t, exec (.stationTick levels) s = .next t ∧ t.liu.prescaler = 0 ∧ t.pins.lines = levels ∧
      (∀ n : LineIndex,
        let c := s.setting n
        let l := s.line n
        let active := levels.getLsbD n.val != c.activeLow
        let q := if c.debounce then active && decide (3 ≤ l.count) else active
        t.line n = {
          lastSample := active, q := q,
          count := if c.debounce && active then min (l.count + 1) 4 else 0,
          armed := if c.level then !q || l.armed else !active || (l.armed && !l.entryDue && !(!l.q && q)),
          entryDue := false }) ∧
      t.sc = { s.sc with
        helloPending := s.sc.helloPending || s.sc.helloRetry.any fun n => decide (n ≤ 1),
        helloRetry := s.sc.helloRetry.bind fun n => if n ≤ 1 then none else some (n - 1) } ∧
      (∃ created, t.nl = (s.nl.map fun n =>
        { n with holdOff := n.holdOff.bind fun h => if h ≤ 1 then none else some (h - 1) }) ++ created) ∧
      t.cs = s.cs ∧ t.ts = s.ts ∧ t.pbe = s.pbe ∧ t.cu = s.cu ∧ t.svt = s.svt ∧
      t.lp.buffer = s.lp.buffer ∧ t.lp.alerts.drop = s.lp.alerts.drop ∧ t.lp.alerts.conflict = s.lp.alerts.conflict

/-- A source that gets no line event at a tick only has its backoff timer run: it expires at its last tick, to
READY with the record otherwise unchanged (R70), and in every other state its record stands (R52). It gets none where
its route is disabled or it is a soft source; where its EDGE line shows no rise of q, is disarmed or takes its entry
sample (R47, R48); and where q of its LEVEL line does not fall and the line does not ask for an IDLE source (R50,
R51). -/
def Obligations.StationTickRunsBackoffTimers : Prop :=
  ∀ (s : State) (levels : BitVec 16) (k : SourceIndex), s.sc.station.takesPart = true →
    ((s.route k).enabled = false ∨ 16 ≤ k.val ∨
      ∃ n : LineIndex, k = sourceOf n ∧
        let c := s.setting n
        let l := s.line n
        let active := levels.getLsbD n.val != c.activeLow
        let q := if c.debounce then active && decide (3 ≤ l.count) else active
        if c.level then (l.q = true → q = true) ∧ (q = true → l.armed = true → (s.source k).state ≠ .idle)
        else l.q = true ∨ q = false ∨ l.armed = false ∨ l.entryDue = true) →
    ∃ t, exec (.stationTick levels) s = .next t ∧
      t.source k = { s.source k with
        state := match (s.source k).state with
          | .backoff n => if n ≤ 1 then .ready else .backoff (n - 1)
          | .idle => .idle
          | .ready => .ready
          | .offering => .offering
          | .placed x => .placed x
          | .withdrawing x w => .withdrawing x w
          | .failed => .failed } ∧
      ((∃ n, (s.source k).state = .backoff n ∧ n ≤ 1) → k ∈ t.st.ready)

/-- A request edge of an enabled EDGE line, or an enabled, armed LEVEL line with q active, makes its IDLE source
READY with a new offer (R48, R50, R63); a request edge sets again on a source that is being offered or held, and on
a READY one whose offer is in hand with cancel pending, changes no other READY one and is ignored by a FAILED one.
Where the backoff timer expires at the same tick, the source becomes READY with again
set or with again as it was, by which event comes first (R82); which one does is free (log 7).

q of an enabled LEVEL line going inactive withdraws its source (R51, R72, Table 4-4): READY not in hand and
BACKOFF go IDLE, READY in hand and OFFERING record cancel pending, PLACED becomes WITHDRAWING with its notice
queued (and cancel pending clear, the model's reading, log 12), and the rest stand. -/
def Obligations.LineEventsReachTheirSource : Prop :=
  (∀ (s : State) (levels : BitVec 16) (n : LineIndex), s.sc.station.takesPart = true →
      (s.route (sourceOf n)).enabled = true →
      let c := s.setting n
      let l := s.line n
      let active := levels.getLsbD n.val != c.activeLow
      let q := if c.debounce then active && decide (3 ≤ l.count) else active
      let k := sourceOf n
      ∃ t, exec (.stationTick levels) s = .next t ∧
        (((c.level = false ∧ l.q = false ∧ l.armed = true ∧ l.entryDue = false) ∨ (c.level = true ∧ l.armed = true)) →
          q = true → (s.source k).state = .idle →
          t.source k = s.newOffer k (s.source k).again ∧ k ∈ t.st.ready) ∧
        (c.level = false → l.q = false → l.armed = true → l.entryDue = false → q = true →
          ((s.source k).state = .offering ∨ (s.source k).state.isPlaced = true →
            t.source k = { s.source k with again := true }) ∧
          ((s.source k).state = .ready → k ∈ s.st.ready → k ∈ t.st.ready ∧
            t.source k = if s.offerInHand k = true ∧ (s.source k).cancelPending = true then
              { s.source k with again := true } else s.source k) ∧
          (∀ b, (s.source k).state = .backoff b → 1 < b →
            t.source k = { s.source k with state := .backoff (b - 1), again := true }) ∧
          (∀ b, (s.source k).state = .backoff b → b ≤ 1 → ∃ again,
            t.source k = { s.source k with state := .ready, again := again } ∧ k ∈ t.st.ready ∧
              (again = true ∨ again = (s.source k).again)) ∧
          ((s.source k).state = .failed → t.source k = s.source k))) ∧
  (∀ (s : State) (levels : BitVec 16) (n : LineIndex), s.sc.station.takesPart = true →
      (s.route (sourceOf n)).enabled = true → (s.setting n).level = true → (s.line n).q = true →
      (levels.getLsbD n.val != (s.setting n).activeLow) = false →
      let k := sourceOf n
      let r := s.source k
      ∃ t, exec (.stationTick levels) s = .next t ∧
        match r.state with
        | .idle => t.source k = r
        | .ready =>
          if s.offerInHand k then t.source k = { r with cancelPending := true }
          else r.again = false → t.source k = s.idleRecord k ∧ k ∉ t.st.ready
        | .offering => t.source k = { r with cancelPending := true }
        | .backoff _ => r.again = false → t.source k = s.idleRecord k
        | .placed x => t.source k = { r with state := .withdrawing x .no, cancelPending := false } ∧
            { body := .withdraw k, addressee := x, source := k, generation := r.generation, cls := (s.route k).cls,
              attempts := 0, holdOff := none } ∈ t.nl
        | .withdrawing _ _ => t.source k = r
        | .failed => t.source k = r)

/-- DEBOUNCE_QUALIFIED: the fourth consecutive active sample brings the count to 4 and q active (R45); an armed
EDGE line past its entry sample is disarmed by its request edge (R48); an IDLE source of an enabled line then
becomes READY (log 8). -/
def Obligations.DebounceQualifiedSetsQ : Prop :=
  ∀ (s : State) (n : LineIndex), s.sc.station.takesPart = true → (s.setting n).debounce = true →
    (s.line n).count = 3 → (s.line n).q = false →
    let l := s.line n
    let k := sourceOf n
    ∃ t, exec (.debounceQualified n) s = .next t ∧
      t.line n = {
        lastSample := true, q := true, count := 4, armed := (s.setting n).level && l.armed,
        entryDue := false } ∧
      (∀ m, m ≠ n → t.line m = s.line m) ∧ t.liu.prescaler = s.liu.prescaler ∧
      ((s.route k).enabled = true → (s.source k).state = .idle → l.armed = true →
        ((s.setting n).level = true ∨ l.entryDue = false) →
        t.source k = s.newOffer k (s.source k).again ∧ k ∈ t.st.ready) ∧
      ((s.route k).enabled = false → t.st = s.st ∧ t.nl = s.nl) ∧
      (∀ j, j ≠ k → t.source j = s.source j) ∧
      t.sc = s.sc ∧ t.cs = s.cs ∧ t.ts = s.ts ∧ t.pbe = s.pbe ∧ t.cu = s.cu ∧ t.svt = s.svt ∧ t.nl = s.nl

/-- BACKOFF_EXPIRY at the timer's last tick: the source enters READY, its record otherwise unchanged, at the tail
of its class (R60, R70; that the row is the source's share of the tick is log 8).

HOLD_OFF_EXPIRY at the timer's last tick: the timer stops and the notice stays in its place (R144; log 8).

HELLO_RETRY_EXPIRY at the timer's last tick: the timer stops and HELLO pending is set (R33; log 8). -/
def Obligations.TimersExpireAtTheirLastTick : Prop :=
  (∀ (s : State) (k : SourceIndex) (before after : List SourceIndex), s.sc.station.takesPart = true →
      (s.source k).state = .backoff 1 → s.st.ready = before ++ after → s.readyWith k before after →
      exec (.backoffExpiry k) s =
        .next (s.putSource k { s.source k with state := .ready } (before ++ k :: after)).settle) ∧
  (∀ (s : State) (n : Notice) (before after : List Notice), s.sc.station.takesPart = true →
      s.nl = before ++ n :: after → n.holdOff = some 1 → (∀ m ∈ before ++ after, m.ref ≠ n.ref) →
      exec (.holdOffExpiry n.ref) s = .next { s with nl := before ++ { n with holdOff := none } :: after }) ∧
  (∀ s : State, s.sc.station.takesPart = true → s.sc.helloRetry = some 1 →
      exec .helloRetryExpiry s = .next { s with sc := { s.sc with helloRetry := none, helloPending := true } })

/-! The Peer Bus between frames -/

/-- INTEGRATION_COMPLETE: consecutive recessive samples count to 96, where the station is synchronised with its
idle count at 11; a dominant sample sets the count to 0 (R3). Nothing is driven.

BUS_IDLE: between frames consecutive recessive samples count up to 11, and a dominant sample below 11 sets the
count to 0 (R4). Nothing is driven. That samples beyond the eleventh recessive one change nothing is log 20. -/
def Obligations.RecessiveSamplesAreCounted : Prop :=
  (∀ (s : State) (n : Nat), s.sc.station.takesPart = true → s.pbe.synchronised = false →
      (s.pbe.integrationCount + n = 96 → exec (.integrationComplete (List.replicate n true)) s = .next { s with
        pbe := { s.pbe with synchronised := true, integrationCount := 96, idleCount := 11 },
        pins := { s.pins with pbdOut := List.replicate n true } }) ∧
      (s.pbe.integrationCount + n < 96 → exec (.integrationComplete (List.replicate n true)) s = .next { s with
        pbe := { s.pbe with integrationCount := s.pbe.integrationCount + n },
        pins := { s.pins with pbdOut := List.replicate n true } }) ∧
      (s.pbe.integrationCount < 96 → exec (.integrationComplete [false]) s = .next { s with
        pbe := { s.pbe with integrationCount := 0 }, pins := { s.pins with pbdOut := [true] } })) ∧
  (∀ (s : State) (n : Nat), s.sc.station.takesPart = true → s.pbe.synchronised = true → s.pbe.role = .noRole →
      s.pbe.idleCount ≤ 11 →
      exec (.busIdle (List.replicate n true)) s = .next { s with
        pbe := { s.pbe with idleCount := min (s.pbe.idleCount + n) 11 },
        pins := { s.pins with pbdOut := List.replicate n true } } ∧
      (s.pbe.idleCount < 11 → exec (.busIdle [false]) s = .next { s with
        pbe := { s.pbe with idleCount := 0 }, pins := { s.pins with pbdOut := [true] } }))

/-- START_OPPORTUNITY: the Transmit Selector chooses the HELLO in JOIN, and in RUN and PARKED the oldest notice
not in hold-off, else the head of the ready list; the frame is built from the item as it stands, the station
drives its SOF and contends (R5, R6, R57, R136, R139).

START_OPPORTUNITY with nothing to enter: a dominant sample is the SOF of a frame the station follows as a
receiver, a recessive one leaves the bus idle (R4, R5, R6). -/
def Obligations.StartOpportunityEntersTheChosenFrame : Prop :=
  (∀ (s : State) (sample : Bool), s.sc.station.takesPart = true → s.pbe.synchronised = true →
      s.pbe.role = .noRole → s.pbe.idleCount = 11 →
      let enters (i : Item) (f : Frame) : State := { s with
        ts := { inHand := some { item := i, frame := f } },
        pbe := { s.pbe with role := .contender, current := [false], driving := true },
        pins := { s.pins with pbdOut := [false] } }
      let working := s.sc.station = .run ∨ s.sc.station = .parked
      (s.sc.station = .join → s.sc.helloPending = true →
        exec (.startOpportunity sample) s = .next (enters .hello (.hello s.sc.id))) ∧
      (working → ∀ before n after, s.nl = before ++ n :: after → (∀ m ∈ before, m.holdOff ≠ none) → n.holdOff = none →
        (∀ h c, n.body = .done h c → exec (.startOpportunity sample) s =
          .next (enters (.notice (.done h)) (.done s.sc.id n.cls n.addressee n.source n.generation c))) ∧
        (∀ k, n.body = .withdraw k → exec (.startOpportunity sample) s =
          .next (enters (.notice (.withdraw k)) (.withdraw s.sc.id n.cls n.addressee n.source n.generation)))) ∧
      (working → (∀ m ∈ s.nl, m.holdOff ≠ none) → ∀ k rest, s.st.ready = k :: rest →
        let r := s.route k
        let g := (s.source k).generation
        (r.mode = .direct → exec (.startOpportunity sample) s =
          .next (enters (.offer k) (.direct s.sc.id r.cls r.targetId k g r.vector r.reentrant))) ∧
        (r.mode = .pool → exec (.startOpportunity sample) s =
          .next (enters (.offer k) (.pool s.sc.id r.cls r.targetMask s.cu.pointer k g r.vector r.reentrant))) ∧
        (r.mode = .spread → ∀ m, (s.source k).remaining = some m → exec (.startOpportunity sample) s =
          .next (enters (.offer k) (.spread s.sc.id r.cls m k g r.vector))))) ∧
  (∀ s : State, s.pbe.synchronised = true → s.pbe.role = .noRole → s.pbe.idleCount = 11 →
      ((s.sc.station = .join ∧ s.sc.helloPending = false) ∨
        ((s.sc.station = .run ∨ s.sc.station = .parked) ∧ (∀ m ∈ s.nl, m.holdOff ≠ none) ∧ s.st.ready = [])) →
      exec (.startOpportunity true) s = .next { s with pins := { s.pins with pbdOut := [true] } } ∧
      exec (.startOpportunity false) s = .next { s with
        pbe := { s.pbe with role := .receiver, current := [false], driving := false },
        pins := { s.pins with pbdOut := [true] } })

/-! Arbitration -/

/-- ARBITRATION_REPORT, won: a contender that samples its own arbitration field becomes the sender; its source
leaves the ready list for OFFERING with cancel pending and again kept; a HELLO or a notice stands (R7, R8, R65,
R140).

ARBITRATION_REPORT, lost: a contender that drove 1 and sampled 0 becomes a receiver holding the sampled field
and releases its frame in hand; a HELLO, a notice and a source without cancel pending stand in their places, and
a source with cancel pending enters IDLE (R7, R8, R65, R140).

ARBITRATION_REPORT at a receiver: it samples the field and drives nothing (R7). -/
def Obligations.ArbitrationGoesToTheLowestField : Prop :=
  (∀ (s : State) (i : Item) (f : Frame) (field : BitVec 10), s.sc.station.takesPart = true →
      s.pbe.role = .contender → s.pbe.current = [false] → s.ts.inHand = some { item := i, frame := f } →
      fieldBits field = f.arbitrationBits →
      let sends : State := { s with
        pbe := { s.pbe with
          role := .sender,
          current := false :: f.arbitrationBits,
          driving := !f.arbitrationBits.getLastD true },
        pins := { s.pins with pbdOut := f.arbitrationBits } }
      (∀ k, i = .offer k → (s.source k).state = .ready →
        exec (.arbitrationReport field) s = .next (sends.putSource k { s.source k with state := .offering }
          (s.st.ready.filter fun j => j != k)).settle) ∧
      ((i = .hello ∨ ∃ r, i = .notice r) → exec (.arbitrationReport field) s = .next sends.settle)) ∧
  (∀ (s : State) (i : Item) (f : Frame) (field : BitVec 10) (same own other : List Bool),
      s.sc.station.takesPart = true → s.pbe.role = .contender → s.pbe.current = [false] →
      s.ts.inHand = some { item := i, frame := f } →
      f.arbitrationBits = same ++ true :: own → fieldBits field = same ++ false :: other →
      let follows : State := { s with
        ts := { inHand := none },
        pbe := { s.pbe with
          role := .receiver,
          current := false :: fieldBits field,
          driving := false },
        pins := { s.pins with pbdOut := same ++ List.replicate (other.length + 1) true } }
      ((i = .hello ∨ (∃ r, i = .notice r) ∨ ∃ k, i = .offer k ∧ (s.source k).state = .ready ∧
          (s.source k).cancelPending = false) →
        exec (.arbitrationReport field) s = .next follows.settle) ∧
      (∀ k, i = .offer k → (s.source k).state = .ready → (s.source k).cancelPending = true →
        exec (.arbitrationReport field) s = .next (follows.enterIdle k).settle)) ∧
  (∀ (s : State) (field : BitVec 10), s.sc.station.takesPart = true → s.pbe.role = .receiver →
      s.pbe.current = [false] →
      exec (.arbitrationReport field) s = .next { s with
        pbe := { s.pbe with current := false :: fieldBits field },
        pins := { s.pins with pbdOut := List.replicate 10 true } })

/-! What the samples from bit 11 on are -/

/-- A receiver that samples the bits a sender drives reads the frame's content: with ERR 1 the frame is good, with
ERR 0 it is discarded, and with COMMIT 1 it is abandoned (R9, R13, R15, R16, R185 to R187). -/
def Obligations.ReceiverReadsWhatTheSenderDrove : Prop :=
  ∀ (s : State) (f : Frame), f.namesSomeone → s.sc.station.takesPart = true → s.pbe.role = .receiver →
    s.pbe.current = f.sentBits.take 11 →
    s.spanEnd (f.sentBits.drop 11 ++ [true]) = .good f ∧
    s.spanEnd (f.sentBits.drop 11 ++ [false]) = .discarded ∧
    s.spanEnd ((f.sentBits.drop 11).dropLast ++ [true]) = .abandoned

/-- A sender compares its bits up to COMMIT with its samples: a 0 where it drove 1 is a mismatch, and without one
the ERR bit decides (R11, R16).

A receiver discards a frame whose sampled bits fail a check of R15, by driving ERR 0 itself (log 10). -/
def Obligations.SpansAreReadByRole : Prop :=
  (∀ (s : State) (i : Item) (f : Frame), s.sc.station.takesPart = true → s.pbe.role = .sender →
      s.pbe.current.length = 11 → s.ts.inHand = some { item := i, frame := f } →
      s.spanEnd (f.sentBits.drop 11 ++ [true]) = .good f ∧
      s.spanEnd (f.sentBits.drop 11 ++ [false]) = .discarded ∧
      ∀ same own other, f.sentBits.drop 11 = same ++ true :: own →
        s.spanEnd (same ++ false :: other) = .mismatch) ∧
  (∀ (s : State) (span : List Bool) (err : Bool), s.sc.station.takesPart = true → s.pbe.role = .receiver →
      s.pbe.current.length = 11 →
      let bits := s.pbe.current ++ span ++ [err]
      sampledKind bits ≠ .invalid → bits.length = (sampledKind bits).errAt + 1 →
      bits.getD (sampledKind bits).commitAt true = false → checkFails bits = true →
      s.spanEnd (span ++ [err]) = .discarded ∧
      s.spanDrive (span ++ [err]) = List.replicate span.length true ++ [false])

/-! The ends of a frame without an outcome -/

/-- BIT_COMPARE_MISMATCH: the sender latches CONFLICT, drops its frame without report and enters HALT; every other
item of state stands (R11, R39).

FRAME_ABANDONED and INVALID_KIND_FRAME_END: the frame is over, its idle count starts, and no block applies
anything (R9, R13); that an invalid frame raises no CONFLICT whatever sender ID it carries is log 19. -/
def Obligations.FramesWithoutOutcome : Prop :=
  (∀ (s : State) (samples : List Bool), s.spanEnd samples = .mismatch →
      exec (.bitCompareMismatch samples) s = .next (s.halted (s.spanDrive samples))) ∧
  (∀ (s : State) (samples : List Bool),
      (s.spanEnd samples = .abandoned →
        exec (.frameAbandoned samples) s = .next (s.betweenFrames (samples.map fun _ => true))) ∧
      (s.spanEnd samples = .invalidEnd →
        exec (.invalidKindFrameEnd samples) s = .next (s.betweenFrames (s.spanDrive samples))))

/-- FRAME_DISCARDED_BY_ERR: a listener applies nothing; a sender's HELLO clears HELLO pending and starts the retry
timer (R16, R33).

FRAME_DISCARDED_BY_ERR at the sender of a notice is an unsuccessful attempt: the count rises and the notice
moves to the tail with its hold-off running (R142); at the sixteenth it is dropped, DROP is latched, a CLOSING
entry becomes FREE and a WITHDRAWING source records the drop (R143).

A round discarded by ERR is unsuccessful: with cancel pending the source enters IDLE, at the decline limit it
enters FAILED, otherwise BACKOFF with the retry count one higher and held at 255; the remaining mask of a SPREAD
source stands (R68, R70, R71, R79). -/
def Obligations.DiscardByErrReachesTheOwner : Prop :=
  (∀ (s : State) (samples : List Bool), s.spanEnd samples = .discarded →
      (s.pbe.role = .receiver → exec (.frameDiscardedByErr samples) s =
        .next (s.betweenFrames (s.spanDrive samples)).settle) ∧
      (∀ f, s.pbe.role = .sender → s.ts.inHand = some { item := .hello, frame := f } →
        exec (.frameDiscardedByErr samples) s =
          .next (({ s with sc := { s.sc with helloPending := false, helloRetry := some s.cs.retryDelay.toNat } } :
            State).betweenFrames (s.spanDrive samples)).settle)) ∧
  (∀ (s : State) (samples : List Bool) (f : Frame) (n : Notice) (before after : List Notice),
      s.spanEnd samples = .discarded → s.pbe.role = .sender →
      s.ts.inHand = some { item := .notice n.ref, frame := f } → s.nl = before ++ n :: after →
      (∀ m ∈ before ++ after, m.ref ≠ n.ref) →
      (n.attempts < 15 → exec (.frameDiscardedByErr samples) s = .next (({ s with nl := before ++ after ++
          [{ n with attempts := n.attempts + 1, holdOff := some s.cs.retryDelay.toNat }] } :
            State).betweenFrames (s.spanDrive samples)).settle) ∧
      (15 ≤ n.attempts → ∃ t, exec (.frameDiscardedByErr samples) s = .next t ∧ t.nl = before ++ after ∧
        t.lp.alerts.drop = true ∧
        (∀ h o c, n.ref = .done h → s.svt.entry h = .occupied o (.closing c) →
          t.svt = s.svt.setEntry h .free ∧ t.st = s.st) ∧
        (∀ k x w, n.ref = .withdraw k → (s.source k).state = .withdrawing x w →
          t.source k = { s.source k with state := .withdrawing x .dropped } ∧ t.svt = s.svt))) ∧
  (∀ (s : State) (samples : List Bool) (f : Frame) (k : SourceIndex), s.spanEnd samples = .discarded →
      s.pbe.role = .sender → s.ts.inHand = some { item := .offer k, frame := f } → (s.source k).state = .offering →
      (f.kind ≠ .spread ∨ ∃ m, (s.source k).remaining = some m ∧ m ≠ 0) →
      let r := s.source k
      let limit := s.cs.declineLimit
      let ends (u : State) := Host.Outcome.next (u.betweenFrames (s.spanDrive samples)).settle
      (r.cancelPending = true → exec (.frameDiscardedByErr samples) s = ends (s.enterIdle k)) ∧
      (r.cancelPending = false → limit ≠ 0 → r.retry.toNat + 1 = limit.toNat →
        exec (.frameDiscardedByErr samples) s =
          ends (s.putSource k { r with state := .failed, retry := limit, again := false } s.st.ready)) ∧
      (r.cancelPending = false → (limit = 0 ∨ r.retry.toNat + 1 ≠ limit.toNat) →
        exec (.frameDiscardedByErr samples) s =
          ends (s.putSource k { r with
            state := .backoff s.cs.retryDelay.toNat,
            retry := BitVec.ofNat 8 (min (r.retry.toNat + 1) 255) } s.st.ready)))

/-- NOTICE_DROP of the notice being sent, at its sixteenth attempt: the notice leaves the list, DROP is latched and
its owner is told (R143; that the row is the Notice List's share of that end, and that the frame in hand is marked
reported, is log 9).

SOURCE_FAILED of an OFFERING source whose offer is being sent, one round below a nonzero decline limit: the source
enters FAILED with its count at the limit, again cleared and its remaining mask kept (R79; log 9).

The end of a frame so reported tells no owner of it again: a CANCEL's new WITHDRAW keeps attempt count 0 (R81, R151;
log 9). -/
def Obligations.LastAttemptsFail : Prop :=
  (∀ (s : State) (f : Frame) (n : Notice) (before after : List Notice), s.sc.station.takesPart = true →
      s.pbe.role = .sender → s.ts.inHand = some { item := .notice n.ref, frame := f } →
      s.nl = before ++ n :: after → (∀ m ∈ before ++ after, m.ref ≠ n.ref) → n.attempts = 15 →
      let dropped : State := { s with
        ts := { inHand := some { item := .reported, frame := f } },
        nl := before ++ after, lp := { s.lp with alerts := { s.lp.alerts with drop := true } } }
      (∀ h o c, n.ref = .done h → s.svt.entry h = .occupied o (.closing c) →
        exec (.noticeDrop n.ref) s = .next ({ dropped with svt := s.svt.setEntry h .free } : State).settle) ∧
      (∀ k x w, n.ref = .withdraw k → (s.source k).state = .withdrawing x w →
        exec (.noticeDrop n.ref) s =
          .next (dropped.putSource k { s.source k with state := .withdrawing x .dropped } s.st.ready).settle)) ∧
  (∀ (s : State) (f : Frame) (k : SourceIndex), s.sc.station.takesPart = true → s.pbe.role = .sender →
      s.ts.inHand = some { item := .offer k, frame := f } → (s.source k).state = .offering →
      (s.source k).cancelPending = false → s.cs.declineLimit ≠ 0 →
      (s.source k).retry.toNat + 1 = s.cs.declineLimit.toNat →
      exec (.sourceFailed k) s = .next (({ s with
        ts := { inHand := some { item := .reported, frame := f } } } : State).putSource k
          { s.source k with state := .failed, retry := s.cs.declineLimit, again := false } s.st.ready).settle) ∧
  (∀ (s : State) (f : Frame) (samples : List Bool), s.pbe.role = .sender →
      s.ts.inHand = some { item := .reported, frame := f } →
      (s.spanEnd samples = .discarded → exec (.frameDiscardedByErr samples) s =
        .next (s.betweenFrames (s.spanDrive samples)).settle) ∧
      (∀ x c a k g o, f = .done x c a k g o → a ≠ s.sc.id → s.spanEnd samples = .good f →
        exec (.doneCompletion samples true) s = .next (s.betweenFrames (s.spanDrive samples ++ [true])).settle) ∧
      (∀ x c a k g, f = .withdraw x c a k g → a ≠ s.sc.id → s.spanEnd samples = .good f →
        exec (.withdrawCompletion samples true) s =
          .next (s.betweenFrames (s.spanDrive samples ++ [true])).settle) ∧
      (s.sc.station.takesPart = true → s.cu.role = .declined →
        let closed : State := { s with cu := { s.cu with reservation := none, role := .noRole } }
        (f.kind = .direct → exec (.directOfferCompletion true) s = .next (closed.betweenFrames [true]).settle) ∧
        (f.kind = .spread → exec (.spreadOfferCompletion (BitVec.allOnes 16)) s =
          .next (closed.betweenFrames (List.replicate 16 true)).settle) ∧
        (f.kind = .pool → exec (.poolOfferCompletion (BitVec.allOnes 14)) s =
          .next (closed.betweenFrames (List.replicate 14 true)).settle)))

/-! Decision and completions -/

/-- DECISION: a station that meets the five conditions of R86 reserves the FREE entry of lowest handle and accepts,
or for POOL claims with the word load, rank, station ID; any other declines and reserves nothing (R85 to R90,
R93). -/
def Obligations.DecisionReservesOrDeclines : Prop :=
  ∀ (s : State) (samples : List Bool) (f : Frame) (o : HeldOffer), s.spanEnd samples = .good f → f.offer = some o →
    let decides (cu : ClaimUnit) (claim : ClaimState) : State := { s with
      cu := cu,
      pbe := { s.pbe with current := s.pbe.current ++ samples, claim := claim, driving := false },
      pins := { s.pins with pbdOut := s.spanDrive samples } }
    (¬ s.mayServe f o →
      exec (.decision samples) s =
        .next (decides { s.cu with reservation := none, role := .declined } s.pbe.claim)) ∧
    (s.mayServe f o → ∀ h, s.svt.entry h = .free → (∀ j, s.svt.entry j = .free → h ≤ j) →
      (∀ x c m p k g v r, f = .pool x c m p k g v r → exec (.decision samples) s = .next
        (decides { s.cu with
          reservation := some h,
          role := .claiming (BitVec.ofNat 14 (256 * s.svt.load + 16 * (s.sc.id - p - 1).toNat + s.sc.id.toNat)) }
          .claiming)) ∧
      (f.kind ≠ .pool → exec (.decision samples) s =
        .next (decides { s.cu with reservation := some h, role := .accepting } .notClaiming)))

/-- HELLO_COMPLETION of the station's own HELLO: the presence view is the stations whose positions sampled 0 and
the station itself, HELLO pending clears and the station enters RUN (R19, R20, R32). -/
def Obligations.OwnHelloEntersRun : Prop :=
  ∀ (s : State) (samples : List Bool) (presence : StationMask), s.spanEnd samples = .good (.hello s.sc.id) →
    s.pbe.role = .sender →
    exec (.helloCompletion samples presence) s = .next (({ s with
      sc := { s.sc with station := .run, presence := ~~~presence ||| maskOnly s.sc.id, helloPending := false } } :
        State).betweenFrames (s.spanDrive samples ++ fieldBits (~~~maskOnly s.sc.id))).settle

/-- HELLO_COMPLETION of a peer's HELLO: the station answers in its position; a source placed there is offered
again, or goes IDLE if it is LEVEL and its line does not ask; a source being withdrawn there goes to IDLE; the
peer's PENDING and CLOSING entries become FREE, its ACTIVE ones DETACHED in their places on the stack; notices
to it go (R19, R77, R78, R127, R147). That a line asks only where its route is enabled is the model's reading of
"the same condition is also tested at the source's entry to IDLE" (R50; log 14). -/
def Obligations.PeerHelloReleasesWhatIsHeld : Prop :=
  ∀ (s : State) (samples : List Bool) (presence : StationMask) (x : StationId),
    s.spanEnd samples = .good (.hello x) → x ≠ s.sc.id → s.pbe.role = .receiver → NoticesMatch s →
    ∃ t, exec (.helloCompletion samples presence) s = .next t ∧
      t.pins.pbdOut = s.spanDrive samples ++ fieldBits (~~~maskOnly s.sc.id) ∧
      (∀ k, match (s.source k).state with
        | .placed y => if y = x then
            (if s.isLevel k = false ∨ s.levelAsks k = true then
              t.source k = s.newOffer k false ∧ k ∈ t.st.ready
            else t.source k = s.idleRecord k)
          else t.source k = s.source k
        | .withdrawing y _ => if y = x then
            (if (s.source k).again = true ∨ s.levelAsks k = true then
              t.source k = s.newOffer k false ∧ k ∈ t.st.ready
            else t.source k = s.idleRecord k)
          else t.source k = s.source k
        | _ => t.source k = s.source k) ∧
      (∀ h, match s.svt.entry h with
        | .free => t.svt.entry h = .free
        | .occupied o (.pending _) => if o.origin = x then t.svt.entry h = .free
            else ∃ p, t.svt.entry h = .occupied o (.pending p)
        | .occupied o (.active w) =>
            t.svt.entry h = if o.origin = x then .occupied o .detached else .occupied o (.active w)
        | .occupied o .detached => t.svt.entry h = .occupied o .detached
        | .occupied o (.closing c) =>
            t.svt.entry h = if o.origin = x then .free else .occupied o (.closing c)) ∧
      t.svt.stack = s.svt.stack ∧ t.svt.threshold = s.svt.threshold ∧
      t.nl = (s.nl.filter fun n => n.addressee != x) ∧
      t.sc = s.sc ∧ t.cs = s.cs ∧ t.liu = s.liu ∧ t.cu = s.cu ∧ t.ts.inHand = none ∧
      t.pbe = (s.betweenFrames []).pbe

/-- A good frame with this station's ID that it did not send takes it to HALT with CONFLICT in place of every
delivery, its response bits standing as driven (R12, R21, R105): here HELLO, DONE and WITHDRAW.

The same for offers: the reservation goes and nothing is installed, and the response bits stand as driven, those of
a claimant that loses included (R18, R91, R105). -/
def Obligations.TwinFramesHalt : Prop :=
  (∀ (s : State) (samples : List Bool) (presence : StationMask) (ack : Bool), s.pbe.role = .receiver →
      (s.spanEnd samples = .good (.hello s.sc.id) → exec (.helloCompletion samples presence) s =
        .next (s.halted (s.spanDrive samples ++ List.replicate 16 true))) ∧
      (∀ c a k g o, s.spanEnd samples = .good (.done s.sc.id c a k g o) → exec (.doneCompletion samples ack) s =
        .next (s.halted (s.spanDrive samples ++ [!(a == s.sc.id)]))) ∧
      (∀ c a k g, s.spanEnd samples = .good (.withdraw s.sc.id c a k g) →
        exec (.withdrawCompletion samples ack) s =
          .next (s.halted (s.spanDrive samples ++ [!(a == s.sc.id)])))) ∧
  (∀ (s : State), s.pbe.role = .receiver →
      (∀ c t k g v r accept, s.decidedFrame = some (.direct s.sc.id c t k g v r) →
        exec (.directOfferCompletion accept) s = .next (s.halted [!(s.cu.role == .accepting)])) ∧
      (∀ c m p k g v r word installs driven, s.decidedFrame = some (.pool s.sc.id c m p k g v r) →
        s.poolResponse word installs driven →
        exec (.poolOfferCompletion word) s = .next (s.halted driven)) ∧
      (∀ c m k g v mask, s.decidedFrame = some (.spread s.sc.id c m k g v) →
        exec (.spreadOfferCompletion mask) s = .next (s.halted
          (fieldBits (if s.cu.role = .accepting then ~~~maskOnly s.sc.id else BitVec.allOnes 16)))))

/-- Entry to IDLE: the record is cleared and the source leaves the ready list; where again is set, or its LEVEL
line is enabled and armed with q active, it takes a new offer at once (R64). That the line's route be enabled here is
the model's reading of "the same condition is also tested at the source's entry to IDLE" (R50; log 14). -/
def Obligations.EntryToIdleTakesAStandingRequest : Prop :=
  ∀ (s : State) (k : SourceIndex) (before after : List SourceIndex),
    (s.st.ready.filter fun j => j != k) = before ++ after → s.readyWith k before after →
    ((s.source k).again = false → s.levelAsks k = false →
      s.enterIdle k = s.putSource k (s.idleRecord k) (before ++ after)) ∧
    ((s.source k).again = true ∨ s.levelAsks k = true →
      s.enterIdle k = s.putSource k (s.newOffer k false) (before ++ k :: after))

/-- DONE_COMPLETION at the addressee: it drives ACK; a DONE that matches a PLACED or WITHDRAWING source by sender,
source and generation ends its offer and takes its WITHDRAW notice, whatever the outcome; any other is ignored
(R73, R74, R145).

A DONE to another station: a listener leaves ACK recessive and applies nothing (R145).

A DONE of the station to itself acknowledges itself, and ends the offer of the source it matches in the same
completion (R73, R74, R141). -/
def Obligations.DoneEndsTheMatchingOffer : Prop :=
  (∀ (s : State) (samples : List Bool) (ack : Bool) (x : StationId) (c : ServiceClass) (k : SourceIndex)
      (g : Generation) (o : DoneOutcome),
      s.spanEnd samples = .good (.done x c s.sc.id k g o) → s.pbe.role = .receiver → x ≠ s.sc.id →
      let matching := (s.source k).generation = g ∧
        ((s.source k).state = .placed x ∨ ∃ w, (s.source k).state = .withdrawing x w)
      (matching → exec (.doneCompletion samples ack) s =
        .next (((({ s with nl := s.nl.filter fun n => n.ref != .withdraw k } : State).enterIdle k).betweenFrames
          (s.spanDrive samples ++ [false])).settle)) ∧
      (¬ matching → exec (.doneCompletion samples ack) s =
        .next (s.betweenFrames (s.spanDrive samples ++ [false])).settle)) ∧
  ((∀ (s : State) (samples : List Bool) (ack : Bool) (x a : StationId) (c : ServiceClass) (k : SourceIndex)
        (g : Generation) (o : DoneOutcome),
        s.spanEnd samples = .good (.done x c a k g o) → s.pbe.role = .receiver → x ≠ s.sc.id → a ≠ s.sc.id →
        exec (.doneCompletion samples ack) s = .next (s.betweenFrames (s.spanDrive samples ++ [true])).settle) ∧
    (∀ (s : State) (samples : List Bool) (ack : Bool) (n : Notice) (f : Frame) (before after : List Notice) (h : Handle)
        (e : DoneOutcome) (o : HeldOffer) (c : DoneOutcome),
        s.pbe.role = .sender → s.ts.inHand = some { item := .notice n.ref, frame := f } →
        s.spanEnd samples = .good f → s.nl = before ++ n :: after → (∀ m ∈ before ++ after, m.ref ≠ n.ref) →
        n.body = .done h e → f = .done s.sc.id n.cls s.sc.id n.source n.generation e →
        s.svt.entry h = .occupied o (.closing c) →
        let k := n.source
        let freed : State := { s with nl := before ++ after, svt := s.svt.setEntry h .free }
        let ends (u : State) := Host.Outcome.next (u.betweenFrames (s.spanDrive samples ++ [false])).settle
        let matching := (s.source k).generation = n.generation ∧
          ((s.source k).state = .placed s.sc.id ∨ ∃ w, (s.source k).state = .withdrawing s.sc.id w)
        (matching → exec (.doneCompletion samples ack) s =
          ends (({ freed with nl := freed.nl.filter fun m => m.ref != .withdraw k } : State).enterIdle k)) ∧
        (¬ matching → exec (.doneCompletion samples ack) s = ends freed)))

/-- WITHDRAW_COMPLETION at the addressee: it drives ACK; a WITHDRAW that matches a tracked entry by sender, source
and generation closes a PENDING entry with a DONE queued, flags an ACTIVE one, and leaves a DETACHED or CLOSING
one; one that matches none is ignored (R123, R124, R125).

A WITHDRAW to another station: a listener leaves ACK recessive and applies nothing (R145).

A WITHDRAW of the station to itself acknowledges itself, and closes the PENDING entry or flags the ACTIVE one it
matches in the same completion; where none matches, it does no more (R123 to R125, R141). -/
def Obligations.WithdrawReachesTheMatchingEntry : Prop :=
  (∀ (s : State) (samples : List Bool) (ack : Bool) (x : StationId) (c : ServiceClass) (k : SourceIndex)
      (g : Generation),
      s.spanEnd samples = .good (.withdraw x c s.sc.id k g) → s.pbe.role = .receiver → x ≠ s.sc.id →
      NoDuplicateEntries s →
      let fits (o : HeldOffer) := o.tracked = true ∧ o.origin = x ∧ o.source = k ∧ o.generation = g
      let ends (u : State) := Host.Outcome.next (u.betweenFrames (s.spanDrive samples ++ [false])).settle
      (∀ h o p, s.svt.entry h = .occupied o p → fits o →
        match p with
        | .pending _ => exec (.withdrawCompletion samples ack) s = ends { s with
            svt := s.svt.changeEntry h (.occupied o (.closing .withdrawn)),
            nl := s.nl ++ [{
              body := .done h .withdrawn, addressee := x, source := k, generation := g, cls := o.cls,
              attempts := 0, holdOff := none }] }
        | .active _ => exec (.withdrawCompletion samples ack) s =
            ends { s with svt := s.svt.setEntry h (.occupied o (.active true)) }
        | .detached => exec (.withdrawCompletion samples ack) s = ends s
        | .closing _ => exec (.withdrawCompletion samples ack) s = ends s) ∧
      ((∀ h o p, s.svt.entry h = .occupied o p → ¬ fits o) →
        exec (.withdrawCompletion samples ack) s = ends s)) ∧
  ((∀ (s : State) (samples : List Bool) (ack : Bool) (x a : StationId) (c : ServiceClass) (k : SourceIndex)
        (g : Generation),
        s.spanEnd samples = .good (.withdraw x c a k g) → s.pbe.role = .receiver → x ≠ s.sc.id → a ≠ s.sc.id →
        exec (.withdrawCompletion samples ack) s = .next (s.betweenFrames (s.spanDrive samples ++ [true])).settle) ∧
    (∀ (s : State) (samples : List Bool) (ack : Bool) (n : Notice) (f : Frame) (before after : List Notice)
        (k : SourceIndex) (y : StationId) (w : WithdrawSent),
        s.pbe.role = .sender → s.ts.inHand = some { item := .notice n.ref, frame := f } →
        s.spanEnd samples = .good f → s.nl = before ++ n :: after → (∀ m ∈ before ++ after, m.ref ≠ n.ref) →
        n.body = .withdraw k → f = .withdraw s.sc.id n.cls s.sc.id n.source n.generation →
        (s.source k).state = .withdrawing y w → NoDuplicateEntries s →
        let told : State := ({ s with nl := before ++ after } : State).putSource k
          { s.source k with state := .withdrawing y .acknowledged } s.st.ready
        let ends (u : State) := Host.Outcome.next (u.betweenFrames (s.spanDrive samples ++ [false])).settle
        let fits (o : HeldOffer) := o.tracked = true ∧ o.origin = s.sc.id ∧ o.source = n.source ∧
          o.generation = n.generation
        (∀ h o p, s.svt.entry h = .occupied o (.pending p) → fits o → exec (.withdrawCompletion samples ack) s =
          ends { told with
            svt := s.svt.changeEntry h (.occupied o (.closing .withdrawn)),
            nl := before ++ after ++ [{
              body := .done h .withdrawn, addressee := s.sc.id, source := n.source, generation := n.generation,
              cls := o.cls, attempts := 0, holdOff := none }] }) ∧
        (∀ h o v, s.svt.entry h = .occupied o (.active v) → fits o → exec (.withdrawCompletion samples ack) s =
          ends { told with svt := s.svt.setEntry h (.occupied o (.active true)) }) ∧
        ((∀ h o p, s.svt.entry h = .occupied o p → fits o → p = .detached ∨ ∃ v, p = .closing v) →
          exec (.withdrawCompletion samples ack) s = ends told)))

/-- DONE_COMPLETION and WITHDRAW_COMPLETION at the sender of a notice to another station: with ACK 0 the notice
leaves the list and its entry becomes FREE or its source records the acknowledgement (R141); with ACK 1 below the
limit the count rises and the notice moves to the tail with its hold-off running (R142), and at the sixteenth
attempt it is dropped, DROP is latched and its owner told (R143). -/
def Obligations.AcknowledgementEndsANotice : Prop :=
  ∀ (s : State) (samples : List Bool) (n : Notice) (f : Frame) (before after : List Notice),
    s.pbe.role = .sender → s.ts.inHand = some { item := .notice n.ref, frame := f } → s.spanEnd samples = .good f →
    s.nl = before ++ n :: after → (∀ m ∈ before ++ after, m.ref ≠ n.ref) → n.addressee ≠ s.sc.id →
    let ends (u : State) := Host.Outcome.next (u.betweenFrames (s.spanDrive samples ++ [true])).settle
    let again : State := { s with nl := before ++ after ++
      [{ n with attempts := n.attempts + 1, holdOff := some s.cs.retryDelay.toNat }] }
    let dropped : State := { s with
      nl := before ++ after, lp := { s.lp with alerts := { s.lp.alerts with drop := true } } }
    (∀ h e, n.body = .done h e → f = .done s.sc.id n.cls n.addressee n.source n.generation e →
      (∀ o c, s.svt.entry h = .occupied o (.closing c) → exec (.doneCompletion samples false) s =
        ends { s with nl := before ++ after, svt := s.svt.setEntry h .free }) ∧
      (n.attempts < 15 → exec (.doneCompletion samples true) s = ends again) ∧
      (15 ≤ n.attempts → ∀ o c, s.svt.entry h = .occupied o (.closing c) →
        exec (.doneCompletion samples true) s = ends { dropped with svt := s.svt.setEntry h .free })) ∧
    (∀ k, n.body = .withdraw k → f = .withdraw s.sc.id n.cls n.addressee n.source n.generation →
      (∀ x w, (s.source k).state = .withdrawing x w → exec (.withdrawCompletion samples false) s =
        ends (({ s with nl := before ++ after } : State).putSource k
          { s.source k with state := .withdrawing x .acknowledged } s.st.ready)) ∧
      (n.attempts < 15 → exec (.withdrawCompletion samples true) s = ends again) ∧
      (15 ≤ n.attempts → ∀ x w, (s.source k).state = .withdrawing x w →
        exec (.withdrawCompletion samples true) s =
          ends (dropped.putSource k { s.source k with state := .withdrawing x .dropped } s.st.ready)))

/-- DIRECT_OFFER_COMPLETION: a station that accepted drove ACCEPT 0 and its reserved entry becomes PENDING, tracked,
last in arrival order; one that declined installs nothing; the response role ends (R91, R92, R100, R109). A listener
does no more. At the origin ACCEPT 0, its own included, places the source at the target, or with cancel pending
starts its withdrawal there; ACCEPT 1 is an unsuccessful round (R20, R67, R68). That cancel pending clears at entry to
WITHDRAWING is the model's reading of Table 4-1 (log 12). -/
def Obligations.DirectOfferCompletes : Prop :=
  ∀ (s : State) (accept : Bool) (x target : StationId) (c : ServiceClass) (k : SourceIndex) (g : Generation)
    (v : Byte) (b : Bool), s.decidedFrame = some (.direct x c target k g v b) →
    let accepts := s.cu.role == .accepting
    let closed : State := { s with
      cu := { s.cu with reservation := none, role := .noRole },
      svt := match s.cu.role, s.cu.reservation with
        | .accepting, some h => s.svt.setEntry h (.occupied
          { origin := x, source := k, generation := g, cls := c, vector := v, reentrant := b, tracked := true }
          (.pending s.svt.pendingCount))
        | _, _ => s.svt }
    let ends (u : State) := Host.Outcome.next (u.betweenFrames [!accepts]).settle
    (s.pbe.role = .receiver → x ≠ s.sc.id → exec (.directOfferCompletion accept) s = ends closed) ∧
    (∀ j f, s.pbe.role = .sender → s.ts.inHand = some { item := .offer j, frame := f } →
      (s.source j).state = .offering →
      let r := s.source j
      let answered := accepts || !accept
      (answered = true → r.cancelPending = false → exec (.directOfferCompletion accept) s =
        ends (closed.putSource j { r with state := .placed target, retry := 0 } s.st.ready)) ∧
      (answered = true → r.cancelPending = true → exec (.directOfferCompletion accept) s =
        ends (({ closed with nl := s.nl ++ [{
            body := .withdraw j, addressee := target, source := j, generation := r.generation,
            cls := (s.route j).cls, attempts := 0, holdOff := none }] } : State).putSource j
          { r with state := .withdrawing target .no, retry := 0, cancelPending := false } s.st.ready)) ∧
      (answered = false → r.cancelPending = true → exec (.directOfferCompletion accept) s =
        ends (closed.enterIdle j)) ∧
      (answered = false → r.cancelPending = false →
        (s.cs.declineLimit = 0 ∨ r.retry.toNat + 1 ≠ s.cs.declineLimit.toNat) →
        exec (.directOfferCompletion accept) s = ends (closed.putSource j { r with
          state := .backoff s.cs.retryDelay.toNat, retry := BitVec.ofNat 8 (min (r.retry.toNat + 1) 255) }
            s.st.ready)) ∧
      (answered = false → r.cancelPending = false → s.cs.declineLimit ≠ 0 →
        r.retry.toNat + 1 = s.cs.declineLimit.toNat →
        exec (.directOfferCompletion accept) s = ends (closed.putSource j { r with
          state := .failed, retry := s.cs.declineLimit, again := false } s.st.ready)))

/-- POOL_OFFER_COMPLETION: a claimant that nowhere sampled 0 where it drove 1 has won and installs its reserved
entry, though it reads no claim or another's in a word a disturbance changed; one that sampled 0 where it drove 1 has
lost and releases it; every deciding station takes the station an awarded word names
as its rotation pointer, and any other word changes no pointer (R18, R91, R94, R96, R100). At the origin an awarded
word places the source at the station it names, or with cancel pending starts its withdrawal there; no claim is an
unsuccessful round (R20, R67, R68). That cancel pending clears at entry to WITHDRAWING is the model's reading of Table
4-1 (log 12), and that the word is read as sampled, own bits included, is log 1. -/
def Obligations.PoolOfferGoesToTheLowestWord : Prop :=
  ∀ (s : State) (word : BitVec 14) (x p w : StationId) (m : StationMask) (c : ServiceClass) (k : SourceIndex)
    (g : Generation) (v : Byte) (b installs : Bool) (driven : List Bool),
    s.decidedFrame = some (.pool x c m p k g v b) → s.poolResponse word installs driven →
    let closed : State := { s with
      cu := { s.cu with reservation := none, role := .noRole },
      svt := match installs, s.cu.reservation with
        | true, some h => s.svt.setEntry h (.occupied
          { origin := x, source := k, generation := g, cls := c, vector := v, reentrant := b, tracked := true }
          (.pending s.svt.pendingCount))
        | _, _ => s.svt }
    let placed : State := { closed with cu := { closed.cu with pointer := w } }
    let ends (u : State) := Host.Outcome.next (u.betweenFrames driven).settle
    let names (w : StationId) : Prop := (word.extractLsb' 8 6).toNat ≤ 23 ∧
      word.extractLsb' 4 4 = w - p - 1 ∧ word.extractLsb' 0 4 = w
    (s.pbe.role = .receiver → x ≠ s.sc.id →
      (names w → exec (.poolOfferCompletion word) s = ends placed) ∧
      ((∀ z, ¬ names z) → exec (.poolOfferCompletion word) s = ends closed)) ∧
    (∀ j f, s.pbe.role = .sender → s.ts.inHand = some { item := .offer j, frame := f } →
      (s.source j).state = .offering →
      let r := s.source j
      (names w → r.cancelPending = false → exec (.poolOfferCompletion word) s =
        ends (placed.putSource j { r with state := .placed w, retry := 0 } s.st.ready)) ∧
      (names w → r.cancelPending = true → exec (.poolOfferCompletion word) s =
        ends (({ placed with nl := s.nl ++ [{
            body := .withdraw j, addressee := w, source := j, generation := r.generation,
            cls := (s.route j).cls, attempts := 0, holdOff := none }] } : State).putSource j
          { r with state := .withdrawing w .no, retry := 0, cancelPending := false } s.st.ready)) ∧
      ((∀ z, ¬ names z) → r.cancelPending = true → exec (.poolOfferCompletion word) s = ends (closed.enterIdle j)) ∧
      ((∀ z, ¬ names z) → r.cancelPending = false →
        (s.cs.declineLimit = 0 ∨ r.retry.toNat + 1 ≠ s.cs.declineLimit.toNat) →
        exec (.poolOfferCompletion word) s = ends (closed.putSource j { r with
          state := .backoff s.cs.retryDelay.toNat, retry := BitVec.ofNat 8 (min (r.retry.toNat + 1) 255) }
            s.st.ready)) ∧
      ((∀ z, ¬ names z) → r.cancelPending = false → s.cs.declineLimit ≠ 0 →
        r.retry.toNat + 1 = s.cs.declineLimit.toNat →
        exec (.poolOfferCompletion word) s = ends (closed.putSource j { r with
          state := .failed, retry := s.cs.declineLimit, again := false } s.st.ready)))

/-- SPREAD_OFFER_COMPLETION: a station that accepted drove its own position and its reserved entry becomes PENDING,
untracked and not reentrant; one that declined installs nothing (R98, R100). At the origin the stations that answered,
itself included, leave the remaining mask; then cancel pending or an empty mask ends the delivery in IDLE, a partial
answer backs off with the count kept, and no answer is an unsuccessful round (R71). -/
def Obligations.SpreadOfferCompletes : Prop :=
  ∀ (s : State) (mask m : StationMask) (x : StationId) (c : ServiceClass) (k : SourceIndex) (g : Generation)
    (v : Byte), s.decidedFrame = some (.spread x c m k g v) →
    let driven : StationMask := if s.cu.role = .accepting then ~~~maskOnly s.sc.id else BitVec.allOnes 16
    let closed : State := { s with
      cu := { s.cu with reservation := none, role := .noRole },
      svt := match s.cu.role, s.cu.reservation with
        | .accepting, some h => s.svt.setEntry h (.occupied
          { origin := x, source := k, generation := g, cls := c, vector := v, reentrant := false, tracked := false }
          (.pending s.svt.pendingCount))
        | _, _ => s.svt }
    let ends (u : State) := Host.Outcome.next (u.betweenFrames (fieldBits driven)).settle
    (s.pbe.role = .receiver → x ≠ s.sc.id → exec (.spreadOfferCompletion mask) s = ends closed) ∧
    (∀ j f left, s.pbe.role = .sender → s.ts.inHand = some { item := .offer j, frame := f } →
      (s.source j).state = .offering → (s.source j).remaining = some left →
      let r := s.source j
      let silent := mask &&& driven
      let rest := left &&& silent
      (r.cancelPending = true ∨ rest = 0 → exec (.spreadOfferCompletion mask) s = ends (closed.enterIdle j)) ∧
      (r.cancelPending = false → rest ≠ 0 → silent ≠ BitVec.allOnes 16 → exec (.spreadOfferCompletion mask) s =
        ends (closed.putSource j { r with state := .backoff s.cs.retryDelay.toNat, remaining := some rest }
          s.st.ready)) ∧
      (r.cancelPending = false → left ≠ 0 → silent = BitVec.allOnes 16 → s.cs.declineLimit ≠ 0 →
        r.retry.toNat + 1 = s.cs.declineLimit.toNat →
        exec (.spreadOfferCompletion mask) s = ends (closed.putSource j { r with
          state := .failed, retry := s.cs.declineLimit, again := false } s.st.ready)) ∧
      (r.cancelPending = false → left ≠ 0 → silent = BitVec.allOnes 16 →
        (s.cs.declineLimit = 0 ∨ r.retry.toNat + 1 ≠ s.cs.declineLimit.toNat) →
        exec (.spreadOfferCompletion mask) s = ends (closed.putSource j { r with
          state := .backoff s.cs.retryDelay.toNat, retry := BitVec.ofNat 8 (min (r.retry.toNat + 1) 255) }
            s.st.ready)))

/-! The Local Port -/

/-- COMMAND_FRAME_BEGINS: LSCS# falls; input bits, overflow flag and output position start afresh, LSDO drives the
first bit of the result code, and the frame is one of RESET, with LSDO at 1, where the station is in RESET (R24, R152
to R154).

FRAME_NOT_TAKEN: a frame of RESET and a frame without bits end with the buffer unchanged; a frame of RESET
shifts out ones (R24, R156 checks 1 and 2), and one that the entry to RESET cut the buffer's bits up to there and
ones for the rest, `n` being how many bits were clocked before the reset (log 5). That no input bits and no
overflow are held at the end of a frame of RESET is the model's choice (log 22).

UNKNOWN_COMMAND: fewer than eight bits give BADLEN without a command code; bits over whole bytes or over 256
give BADLEN; a first byte that is no command code gives UNKNOWN, in every state that takes frames (R153, R156
checks 3 and 4). -/
def Obligations.FramesThatCarryNoCommand : Prop :=
  (∀ s : State, s.lp.frame = .noFrame →
      exec .commandFrameBegins s = .next { s with
        lp := { s.lp with
          frame := if s.sc.station = .reset then .begunInReset else .inProgress,
          input := [], overflow := false, outPosition := 0 },
        pins := { s.pins with
          lsdo := some (if s.sc.station = .reset then true else s.lp.buffer.result.byte.getMsbD 0),
          lsdoOut := [] } }) ∧
  (∀ (s : State) (bits : List Bool),
      (¬ s.portOpen → ∀ n, exec (.frameNotTaken { bits := bits, beforeReset := n }) s = .next (s.ignored bits n)) ∧
      ∀ n, exec (.frameNotTaken { bits := [], beforeReset := n }) s = .next (s.ignored [] n)) ∧
  (∀ (s : State) (n : Nat) (bits : List Bool), s.lp.frame = .inProgress → n ≤ bits.length →
      ∃ t u, exec .resetPinLow s = .next t ∧
        exec (.frameNotTaken { bits := bits, beforeReset := n }) t = .next u ∧
        u.pins.lsdoOut = shiftOut s.lp.buffer n ++ List.replicate (bits.length - n) true ∧
        u.pins.lsdo = none ∧ u.lp.buffer = { result := .reset, code := none, data := [] }) ∧
  (∀ (s : State) (c : Byte) (bs : List Byte) (extra : List Bool), s.portOpen → extra.length < 8 →
      (extra ≠ [] → exec (.unknownCommand extra) s = .next (s.answered extra .badLen none [])) ∧
      (c ∉ ([0x00, 0x01, 0x02, 0x03, 0x04, 0x05, 0x06, 0x07, 0x08, 0x09, 0x10, 0x11, 0x12, 0x13, 0x20, 0x21, 0x22,
          0x23, 0x24, 0x30, 0x31, 0x32, 0x33, 0x34, 0x35, 0x3F] : List Byte) →
        (extra ≠ [] ∨ 31 < bs.length → exec (.unknownCommand (byteBits (c :: bs) ++ extra)) s =
          .next (s.answered (byteBits (c :: bs) ++ extra) .badLen (some c) [])) ∧
        (extra = [] → bs.length ≤ 31 → exec (.unknownCommand (byteBits (c :: bs))) s =
          .next (s.answers (c :: bs) .unknown []))))

/-- The bits of a port frame that holds a command are that command, with every argument at every value and any
padding (R153, R189, Table 10-5). -/
def Obligations.PortFrameBitsSpellTheirCommand : Prop :=
  ∀ (c : Instr) (code : Byte) (t : PortTail), commandCode c = some (code, t) → t.wellFormed = true →
    classifyFrame (portFrameBits code t) = c

/-- The checks of Table 8-2 before a command's own, for all 26 commands, in their order: a frame of RESET is not
taken (a command's row stands for one with no bit before the reset, log 5, and its input bits are not held, log
22); bits over whole bytes or over 256 give BADLEN; a byte count that does not fit the code gives BADLEN; a
station state outside Table 8-3 gives STATE. A refused command changes nothing but the port's frame items and its
buffer (R155, R156).

The byte counts of Table 10-5. -/
def Obligations.PortChecksComeInOrder : Prop :=
  (∀ (c : Instr) (code : Byte) (t : PortTail) (s : State), commandCode c = some (code, t) →
      let bits := portFrameBits code t
      let whole := t.extra = [] ∧ bits.length ≤ 256
      let fits := ∃ lo hi, byteCount code = some (lo, hi) ∧ lo ≤ t.bytes.length + 1 ∧ t.bytes.length + 1 ≤ hi
      (¬ s.portOpen → exec c s = .next (s.ignored bits 0)) ∧
      (s.portOpen → ¬ whole → exec c s = .next (s.answered bits .badLen (some code) [])) ∧
      (s.portOpen → whole → ¬ fits → exec c s = .next (s.answered bits .badLen (some code) [])) ∧
      (s.portOpen → whole → fits → s.sc.station ∉ c.takenIn →
        exec c s = .next (s.answered bits .state (some code) []))) ∧
  ((∀ code ∈ ([0x01, 0x02, 0x03, 0x08, 0x09, 0x13, 0x23, 0x24, 0x30, 0x31, 0x32, 0x34, 0x35, 0x3F] : List Byte),
      byteCount code = some (1, 1)) ∧
    (∀ code ∈ ([0x04, 0x05, 0x06, 0x07, 0x20, 0x21, 0x22, 0x33] : List Byte), byteCount code = some (2, 2)) ∧
    byteCount 0x00 = some (1, 32) ∧ byteCount 0x10 = some (4, 4) ∧ byteCount 0x11 = some (3, 3) ∧
    byteCount 0x12 = some (9, 9))

/-- READ_ID returns A7h, 16h, 01h and the station ID, and changes nothing (R160). -/
def Obligations.ReadIdReturnsTheIdentification : Prop :=
  ∀ s : State, s.portOpen →
    exec (.readId ⟨[], []⟩) s = .next (s.answers [0x01] .ok [0xA7, 0x16, 0x01, s.sc.id.setWidth 8])

/-- NOP of 1 to 32 bytes, whatever its padding, returns the status word and changes nothing; a longer one is refused
with BADLEN (R159, R161, R191). -/
def Obligations.NopReturnsTheStatusWord : Prop :=
  ∀ (s : State) (padding : List Byte), s.portOpen →
    (padding.length ≤ 31 →
      exec (.nop ⟨padding, []⟩) s = .next (s.answers (0x00 :: padding) .ok (asBytes s.statusLayout))) ∧
    (31 < padding.length → exec (.nop ⟨padding, []⟩) s = .next (s.answers (0x00 :: padding) .badLen []))

/-- READ_STATUS returns the status word, the failed-source set and the dropped-withdraw set, and changes nothing
(R162).

READ_SOURCE and READ_ENTRY return their record in the layouts of Tables 10-12 and 10-13 and change nothing; a
number out of range is refused with BADARG (R58, R130, R163, R192).

READ_STACK returns the depth, the slots from the bottom to the top and FFh beyond them; READ_PRESENCE returns the
presence view, stations 15 to 8 first; neither changes anything (R34, R131, R188, R192). -/
def Obligations.ReadsOfRunState : Prop :=
  (∀ s : State, s.portOpen → ∃ failed dropped,
      exec (.readStatus ⟨[], []⟩) s = .next (s.answers [0x02] .ok (asBytes s.statusLayout ++ failed ++ dropped)) ∧
      packsSources failed (fun k => (s.source k).state = .failed) ∧
      packsSources dropped (fun k => ∃ x, (s.source k).state = .withdrawing x .dropped)) ∧
  (∀ s : State, s.portOpen →
      (∀ k : SourceIndex, exec (.readSource ⟨[BitVec.ofNat 8 k.val], []⟩) s =
        .next (s.answers [0x06, BitVec.ofNat 8 k.val] .ok (asBytes ((s.source k).layout k)))) ∧
      (∀ k : Byte, 23 < k.toNat → exec (.readSource ⟨[k], []⟩) s = .next (s.answers [0x06, k] .badArg [])) ∧
      (∀ h : Handle, exec (.readEntry ⟨[BitVec.ofNat 8 h.val], []⟩) s =
        .next (s.answers [0x07, BitVec.ofNat 8 h.val] .ok (asBytes ((s.svt.entry h).layout h)))) ∧
      (∀ h : Byte, 23 < h.toNat → exec (.readEntry ⟨[h], []⟩) s = .next (s.answers [0x07, h] .badArg []))) ∧
  (∀ s : State, s.portOpen →
      exec (.readStack ⟨[], []⟩) s = .next (s.answers [0x08] .ok (asBytes
        ([s.svt.stack.length] ++ (s.svt.stack.reverse.flatMap fun h => (s.svt.entry h).slotLayout h)
          ++ List.replicate (2 * (8 - s.svt.stack.length)) 255))) ∧
      exec (.readPresence ⟨[], []⟩) s = .next (s.answers [0x09] .ok
        (asBytes [s.sc.presence.toNat / 256, s.sc.presence.toNat % 256])))

/-- READ_STATION returns the decline limit, the retry delay and the tick divider, and changes nothing (R177).

READ_LINE and READ_ROUTE return their record in its layout and change nothing; a number out of range is refused
with BADARG (R43, R163, R178, Tables 10-6, 10-7, 10-9, 10-11). -/
def Obligations.ReadsOfTheConfiguration : Prop :=
  (∀ s : State, s.portOpen → exec (.readStation ⟨[], []⟩) s =
      .next (s.answers [0x03] .ok [s.cs.declineLimit, s.cs.retryDelay, s.cs.tickDivider])) ∧
  (∀ s : State, s.portOpen →
      (∀ n : LineIndex, exec (.readLine ⟨[BitVec.ofNat 8 n.val], []⟩) s =
        .next (s.answers [0x04, BitVec.ofNat 8 n.val] .ok (asBytes [n.val,
          4 * (s.setting n).debounce.toNat + 2 * (s.setting n).level.toNat + (s.setting n).activeLow.toNat,
          16 * (s.line n).count + 4 * (s.line n).armed.toNat + 2 * (s.line n).q.toNat
            + (s.line n).lastSample.toNat]))) ∧
      (∀ n : Byte, 15 < n.toNat → exec (.readLine ⟨[n], []⟩) s = .next (s.answers [0x04, n] .badArg [])) ∧
      (∀ k : SourceIndex, let r := s.route k
        exec (.readRoute ⟨[BitVec.ofNat 8 k.val], []⟩) s =
          .next (s.answers [0x05, BitVec.ofNat 8 k.val] .ok (asBytes [k.val,
            match r.mode with | .direct => 0 | .pool => 1 | .spread => 2,
            r.cls.toNat, r.vector.toNat, r.targetId.toNat, r.targetMask.toNat / 256, r.targetMask.toNat % 256,
            2 * r.reentrant.toNat + r.enabled.toNat]))) ∧
      (∀ k : Byte, 23 < k.toNat → exec (.readRoute ⟨[k], []⟩) s = .next (s.answers [0x05, k] .badArg [])))

/-- SET_STATION in CONFIG replaces the three station parameters, or is refused with BADARG where the retry delay or
the tick divider is 0; with another number of argument bytes it is refused with BADLEN (R173). -/
def Obligations.SetStationWritesTheParameters : Prop :=
  ∀ (s : State) (limit delay divider : Byte), s.portOpen → s.sc.station = .config →
    (delay ≠ 0 → divider ≠ 0 → exec (.setStation ⟨[limit, delay, divider], []⟩) s = .next (({ s with
      cs := { s.cs with declineLimit := limit, retryDelay := delay, tickDivider := divider } } : State).answers
        [0x10, limit, delay, divider] .ok [])) ∧
    (delay = 0 ∨ divider = 0 → exec (.setStation ⟨[limit, delay, divider], []⟩) s =
      .next (s.answers [0x10, limit, delay, divider] .badArg [])) ∧
    (∀ bytes : List Byte, bytes.length ≠ 3 → exec (.setStation ⟨bytes, []⟩) s =
      .next (s.answers (0x10 :: bytes) .badLen []))

/-- SET_LINE in CONFIG replaces the setting of line n and nothing else; a line above 15 or a reserved position is
refused with BADARG (R174, Table 10-6).

SET_ROUTE in CONFIG replaces route entry s; the checks of R175 refuse the rest with BADARG (R175, R176,
Tables 10-5, 10-7). -/
def Obligations.SetLineAndSetRoute : Prop :=
  (∀ (s : State) (n settings : Byte), s.portOpen → s.sc.station = .config →
      (∀ h : n.toNat < 16, settings.toNat < 8 → exec (.setLine ⟨[n, settings], []⟩) s = .next (({ s with
        cs := { s.cs with lines := s.cs.lines.set n.toNat {
          debounce := settings.getLsbD 2, level := settings.getLsbD 1, activeLow := settings.getLsbD 0 } h } } :
            State).answers [0x11, n, settings] .ok [])) ∧
      (15 < n.toNat ∨ 7 < settings.toNat → exec (.setLine ⟨[n, settings], []⟩) s =
        .next (s.answers [0x11, n, settings] .badArg []))) ∧
  (∀ (s : State) (k mode cls vector target hi lo flags : Byte), s.portOpen → s.sc.station = .config →
      let bytes := [k, mode, cls, vector, target, hi, lo, flags]
      let valid := mode.toNat ≤ 2 ∧ cls.toNat ≤ 15 ∧ target.toNat ≤ 15 ∧ (mode = 0 ∨ hi ≠ 0 ∨ lo ≠ 0) ∧
        flags.toNat ≤ 3
      (∀ h : k.toNat < 24, valid → exec (.setRoute ⟨bytes, []⟩) s = .next (({ s with
        cs := { s.cs with routes := s.cs.routes.set k.toNat {
          enabled := flags.getLsbD 0,
          mode := if mode = 0 then .direct else if mode = 1 then .pool else .spread,
          cls := cls.setWidth 4, vector := vector, targetId := target.setWidth 4, targetMask := hi ++ lo,
          reentrant := flags.getLsbD 1 } h } } : State).answers (0x12 :: bytes) .ok [])) ∧
      (23 < k.toNat ∨ ¬ valid → exec (.setRoute ⟨bytes, []⟩) s = .next (s.answers (0x12 :: bytes) .badArg [])))

/-- COMMIT in CONFIG returns OK whatever the store holds: the station enters JOIN with HELLO pending, integration
begun and every table empty; the configuration stands (R28, R29, R179; that the run state is written anew, where
CONFIG finds it so, is log 13).

REJOIN in JOIN, RUN and PARKED returns OK: every block's run state takes its rejoin value, DROP clears, the
configuration and the station ID stand, and the station is in JOIN with HELLO pending (R38, R150, R152). -/
def Obligations.CommitAndRejoinEnterJoin : Prop :=
  (∀ s : State, s.portOpen → s.sc.station = .config →
      exec (.commit ⟨[], []⟩) s = .next (({ s with
        sc := { s.sc with station := .join, presence := 0, helloPending := true, helloRetry := none },
        liu := LineUnit.reset, st := SourceTable.reset, ts := { inHand := none }, pbe := BusEngine.reset,
        cu := ClaimUnit.reset, svt := ServiceTable.reset, nl := [] } : State).settle.answers [0x13] .ok [])) ∧
  (∀ s : State, s.portOpen → s.sc.station.takesPart = true →
      let u := ({ s with
        sc := { s.sc with station := .join, presence := 0, helloPending := true, helloRetry := none },
        liu := LineUnit.reset, st := SourceTable.reset, ts := { inHand := none }, pbe := BusEngine.reset,
        cu := ClaimUnit.reset, svt := ServiceTable.reset, nl := [],
        lp := { s.lp with alerts := { s.lp.alerts with drop := false } } } : State).settle.answers [0x24] .ok []
      exec (.rejoin ⟨[], []⟩) s =
        .next { u with lp := { u.lp with input := [], overflow := false, outPosition := 0 } })

/-- PARK in RUN enters PARKED and UNPARK in PARKED enters RUN; nothing else changes, a frame's response role and
reservation included (R36, R37).

SET_THRESHOLD in JOIN, RUN and PARKED sets a threshold of 0 to 16 and returns it, changing no entry; a greater one
is refused with BADARG (R114).

ACK_ALERT clears DROP, leaves FAIL and CONFLICT to their causes, and returns the alert event set (R164, R165). -/
def Obligations.ParkThresholdAndAlerts : Prop :=
  (∀ s : State, s.portOpen →
      (s.sc.station = .run → exec (.park ⟨[], []⟩) s = .next (({ s with
        sc := { s.sc with station := .parked } } : State).settle.answers [0x34] .ok [])) ∧
      (s.sc.station = .parked → exec (.unpark ⟨[], []⟩) s = .next (({ s with
        sc := { s.sc with station := .run } } : State).settle.answers [0x35] .ok []))) ∧
  (∀ (s : State) (v : Byte), s.portOpen → s.sc.station.takesPart = true →
      (v.toNat ≤ 16 → exec (.setThreshold ⟨[v], []⟩) s = .next (({ s with
        svt := { s.svt with threshold := v.toNat } } : State).settle.answers [0x20, v] .ok [v])) ∧
      (16 < v.toNat → exec (.setThreshold ⟨[v], []⟩) s = .next (s.answers [0x20, v] .badArg []))) ∧
  (∀ s : State, s.portOpen → s.sc.station.takesPart = true →
      exec (.ackAlert ⟨[], []⟩) s = .next (({ s with
        lp := { s.lp with alerts := { s.lp.alerts with drop := false } } } : State).settle.answers [0x23] .ok
          (asBytes [4 * s.anyFailed.toNat + s.lp.alerts.conflict.toNat])))

/-- RAISE of soft source k, by the state of source 16 + k (R53, R63, Table 4-2): an IDLE source becomes READY with a
new offer at the tail of its class; again is set in OFFERING, BACKOFF, PLACED and WITHDRAWING, and in READY in hand
with cancel pending; READY otherwise and FAILED stand. OK in each case; a disabled route is refused with ROUTE and
k above 7 with BADARG.

RAISE in CONFIG and HALT is refused with STATE (R53). -/
def Obligations.RaiseIsARequest : Prop :=
  (∀ (s : State) (i : Fin 8) (before after : List SourceIndex), s.portOpen → s.sc.station.takesPart = true →
      let k : SourceIndex := ⟨16 + i.val, by omega⟩
      let r := s.source k
      let answer (u : State) := Host.Outcome.next (u.settle.answers [0x21, BitVec.ofNat 8 i.val] .ok [])
      let setsAgain := r.state = .offering ∨ (∃ n, r.state = .backoff n) ∨ r.state.isPlaced = true ∨
        (r.state = .ready ∧ s.offerInHand k = true ∧ r.cancelPending = true)
      ((s.route k).enabled = true → r.state = .idle → s.st.ready = before ++ after → s.readyWith k before after →
        exec (.raise ⟨[BitVec.ofNat 8 i.val], []⟩) s =
          answer (s.putSource k (s.newOffer k r.again) (before ++ k :: after))) ∧
      ((s.route k).enabled = true → setsAgain → exec (.raise ⟨[BitVec.ofNat 8 i.val], []⟩) s =
        answer (s.putSource k { r with again := true } s.st.ready)) ∧
      ((s.route k).enabled = true → r.state ≠ .idle → ¬ setsAgain →
        exec (.raise ⟨[BitVec.ofNat 8 i.val], []⟩) s = answer s) ∧
      ((s.route k).enabled = false → exec (.raise ⟨[BitVec.ofNat 8 i.val], []⟩) s =
        .next (s.answers [0x21, BitVec.ofNat 8 i.val] .route [])) ∧
      (∀ v : Byte, 7 < v.toNat → exec (.raise ⟨[v], []⟩) s = .next (s.answers [0x21, v] .badArg []))) ∧
  (∀ s : State, s.portOpen → s.sc.station = .config ∨ s.sc.station = .halt →
      ∀ v : Byte, exec (.raise ⟨[v], []⟩) s = .next (s.answers [0x21, v] .state []))

/-- CANCEL by source state (R49, R69, Table 4-3): an enabled LEVEL line with q active is disarmed and again clears;
READY not in hand, BACKOFF and FAILED go IDLE and stay there; READY in hand and OFFERING record cancel pending;
PLACED enters WITHDRAWING and a dropped withdrawal is sent anew, each with a fresh notice; the rest stand.
Cancel pending is clear in PLACED (Table 4-1).

CANCEL of an index above 23 is refused with BADARG; the disarm of an accepted one reaches exactly an enabled
LEVEL line with q active (R49, R69).

CANCEL in CONFIG and HALT is refused with STATE (R69). -/
def Obligations.CancelBySourceState : Prop :=
  (∀ (s : State) (k : SourceIndex), s.portOpen → s.sc.station.takesPart = true →
      let r := s.source k
      let liu := (s.cancelDisarms k).liu
      let done (r' : SourceRecord) (ready : List SourceIndex) (nl : List Notice) :=
        exec (.cancel ⟨[BitVec.ofNat 8 k.val], []⟩) s =
          .next ((({ s with liu := liu, nl := nl } : State).putSource k r' ready).settle.answers
            [0x22, BitVec.ofNat 8 k.val] .ok [])
      let leaves := s.st.ready.filter fun j => j != k
      let notice (x : StationId) : Notice := { body := .withdraw k, addressee := x, source := k,
                                               generation := r.generation, cls := (s.route k).cls,
                                               attempts := 0, holdOff := none }
      match r.state with
      | .idle => done { r with again := false } s.st.ready s.nl
      | .ready => if s.offerInHand k then done { r with again := false, cancelPending := true } s.st.ready s.nl
          else done (s.idleRecord k) leaves s.nl
      | .offering => done { r with again := false, cancelPending := true } s.st.ready s.nl
      | .backoff _ => done (s.idleRecord k) leaves s.nl
      | .placed x => r.cancelPending = false →
          done { r with state := .withdrawing x .no, again := false } s.st.ready (s.nl ++ [notice x])
      | .withdrawing x .dropped => done { r with state := .withdrawing x .no, again := false } s.st.ready
          (s.nl ++ [notice x])
      | .withdrawing _ _ => done { r with again := false } s.st.ready s.nl
      | .failed => done (s.idleRecord k) leaves s.nl) ∧
  (∀ (s : State), s.portOpen → s.sc.station.takesPart = true →
      (∀ v : Byte, 23 < v.toNat → exec (.cancel ⟨[v], []⟩) s = .next (s.answers [0x22, v] .badArg [])) ∧
      (∀ n : LineIndex, (s.route (sourceOf n)).enabled = true → (s.setting n).level = true → (s.line n).q = true →
        s.cancelDisarms (sourceOf n) = s.setLineState n { s.line n with armed := false }) ∧
      (∀ n : LineIndex, (s.route (sourceOf n)).enabled = false ∨ (s.setting n).level = false ∨ (s.line n).q = false →
        s.cancelDisarms (sourceOf n) = s) ∧
      (∀ k : SourceIndex, 16 ≤ k.val → s.cancelDisarms k = s)) ∧
  (∀ s : State, s.portOpen → s.sc.station = .config ∨ s.sc.station = .halt →
      ∀ v : Byte, exec (.cancel ⟨[v], []⟩) s = .next (s.answers [0x22, v] .state []))

/-- PEEK returns the best eligible entry's handle, vector, origin and class, tracked flag and source, or NONE, and
changes nothing (R113, R115). -/
def Obligations.PeekReturnsTheBestEntry : Prop :=
  ∀ s : State, s.portOpen →
    (∀ h o p, s.sc.station = .run ∨ s.sc.station = .parked → StackRight s → ArrivalsRight s → s.svt.isBest h o p →
      exec (.peek ⟨[], []⟩) s = .next (s.answers [0x30] .ok (asBytes [h.val, o.vector.toNat,
        16 * o.origin.toNat + o.cls.toNat, 128 * o.tracked.toNat + o.source.val]))) ∧
    (s.sc.station = .run ∨ s.sc.station = .parked → StackRight s → (¬ ∃ h o p, s.svt.waits h o p) →
      exec (.peek ⟨[], []⟩) s = .next (s.answers [0x30] .none [])) ∧
    (s.sc.station = .config ∨ s.sc.station = .join ∨ s.sc.station = .halt →
      exec (.peek ⟨[], []⟩) s = .next (s.answers [0x30] .state []))

/-- Where an entry is eligible for TAKE there is a best one (R113).

TAKE makes the best eligible entry ACTIVE with withdraw requested clear and puts its handle on top of the stack;
the PENDING entries that arrived after it move up one place; it returns what PEEK returns, or NONE and changes
nothing (R109, R116).

TAKE in CONFIG, JOIN and HALT is refused with STATE (R116). -/
def Obligations.TakeActivatesTheBestEntry : Prop :=
  (∀ s : State, ArrivalsRight s → (∃ h o p, s.svt.waits h o p) → ∃ h o p, s.svt.isBest h o p) ∧
  (∀ s : State, s.portOpen → s.sc.station = .run ∨ s.sc.station = .parked → StackRight s → ArrivalsRight s →
      (∀ h o p, s.svt.isBest h o p → ∃ entries : Vector Entry 24,
        exec (.take ⟨[], []⟩) s = .next (({ s with
          svt := { s.svt with entries := entries, stack := h :: s.svt.stack } } : State).settle.answers [0x31] .ok
            (asBytes [h.val, o.vector.toNat, 16 * o.origin.toNat + o.cls.toNat,
              128 * o.tracked.toNat + o.source.val])) ∧
        ∀ j : Handle, entries.get j = if j = h then .occupied o (.active false)
          else match s.svt.entry j with
            | .occupied l (.pending q) => .occupied l (.pending (if p < q then q - 1 else q))
            | e => e) ∧
      ((¬ ∃ h o p, s.svt.waits h o p) → exec (.take ⟨[], []⟩) s = .next (s.answers [0x31] .none []))) ∧
  (∀ s : State, s.portOpen → s.sc.station = .config ∨ s.sc.station = .join ∨ s.sc.station = .halt →
      exec (.take ⟨[], []⟩) s = .next (s.answers [0x31] .state []))

/-- COMPLETE takes the top handle off the stack: an ACTIVE tracked entry enters CLOSING with outcome COMPLETED,
whatever its withdraw requested flag, and its DONE joins the tail of the Notice List; any other becomes FREE. It
returns the handle and whether a DONE was queued; an empty stack gives EMPTY (R119, R121).

COMPLETE in CONFIG, JOIN and HALT is refused with STATE (R119). -/
def Obligations.CompleteFinishesTheTopEntry : Prop :=
  (∀ s : State, s.portOpen → s.sc.station = .run ∨ s.sc.station = .parked → StackRight s →
      (s.svt.stack = [] → exec (.complete ⟨[], []⟩) s = .next (s.answers [0x32] .empty [])) ∧
      (∀ h rest o, s.svt.stack = h :: rest →
        (∀ w, s.svt.entry h = .occupied o (.active w) → o.tracked = true →
          exec (.complete ⟨[], []⟩) s = .next (({ s with
            svt := { s.svt with
              entries := s.svt.entries.set h.val (.occupied o (.closing .completed)), stack := rest },
            nl := s.nl ++ [{ body := .done h .completed, addressee := o.origin, source := o.source,
                             generation := o.generation, cls := o.cls, attempts := 0, holdOff := none }] } :
              State).settle.answers [0x32] .ok (asBytes [128 + h.val]))) ∧
        ((∃ w, s.svt.entry h = .occupied o (.active w) ∧ o.tracked = false) ∨ s.svt.entry h = .occupied o .detached →
          exec (.complete ⟨[], []⟩) s = .next (({ s with
            svt := { s.svt with entries := s.svt.entries.set h.val .free, stack := rest } } : State).settle.answers
              [0x32] .ok (asBytes [h.val]))))) ∧
  (∀ s : State, s.portOpen → s.sc.station = .config ∨ s.sc.station = .join ∨ s.sc.station = .halt →
      exec (.complete ⟨[], []⟩) s = .next (s.answers [0x32] .state []))

/-- COMPLETE_ENTRY does the same for the handle it names, from any place on the stack, the others keeping their
order; an entry that is neither ACTIVE nor DETACHED is refused with BADHANDLE, a handle above 23 with BADARG
(R111, R120).

COMPLETE_ENTRY in CONFIG, JOIN and HALT is refused with STATE (R120). -/
def Obligations.CompleteEntryFinishesTheNamedEntry : Prop :=
  (∀ (s : State) (h : Handle), s.portOpen → s.sc.station = .run ∨ s.sc.station = .parked →
      let command := Instr.completeEntry ⟨[BitVec.ofNat 8 h.val], []⟩
      let stack := s.svt.stack.filter fun j => j != h
      (∀ o w, s.svt.entry h = .occupied o (.active w) → o.tracked = true → exec command s = .next (({ s with
        svt := { s.svt with entries := s.svt.entries.set h.val (.occupied o (.closing .completed)), stack := stack },
        nl := s.nl ++ [{ body := .done h .completed, addressee := o.origin, source := o.source,
                         generation := o.generation, cls := o.cls, attempts := 0, holdOff := none }] } :
          State).settle.answers [0x33, BitVec.ofNat 8 h.val] .ok (asBytes [128 + h.val]))) ∧
      (∀ o, (∃ w, s.svt.entry h = .occupied o (.active w) ∧ o.tracked = false) ∨ s.svt.entry h = .occupied o .detached →
        exec command s = .next (({ s with
          svt := { s.svt with entries := s.svt.entries.set h.val .free, stack := stack } } : State).settle.answers
            [0x33, BitVec.ofNat 8 h.val] .ok (asBytes [h.val]))) ∧
      ((s.svt.entry h).onStack = false →
        exec command s = .next (s.answers [0x33, BitVec.ofNat 8 h.val] .badHandle [])) ∧
      (∀ v : Byte, 23 < v.toNat →
        exec (.completeEntry ⟨[v], []⟩) s = .next (s.answers [0x33, v] .badArg []))) ∧
  (∀ s : State, s.portOpen → s.sc.station = .config ∨ s.sc.station = .join ∨ s.sc.station = .halt →
      ∀ v : Byte, exec (.completeEntry ⟨[v], []⟩) s = .next (s.answers [0x33, v] .state []))

/-! What holds over whole runs -/

/-- Outside JOIN, RUN and PARKED no event of the bus or of the tick changes anything (R2, R27, R40, R42). -/
def Obligations.SilentOutsideTheBusStates : Prop :=
  ∀ (c : Instr) (s : State), c.ofBusOrTick = true → s.sc.station.takesPart = false → exec c s = .next s

/-- In HALT a command that does not begin a full reset changes nothing but the Local Port's frame items, its buffer
and LSDO (R40). -/
def Obligations.HaltHoldsEverything : Prop :=
  ∀ (c : Instr) (s t : State), s.sc.station = .halt → c.forcesReset = false →
    (∀ tail, c ≠ .reset tail) → exec c s = .next t →
    t = { s with
      lp := { t.lp with alerts := s.lp.alerts },
      pins := { s.pins with lsdo := t.pins.lsdo, lsdoOut := t.pins.lsdoOut } }

/-- The Configuration Store changes only at a full reset and, in CONFIG, at SET_STATION, SET_LINE and SET_ROUTE (R28,
R172, R181).

Every item of the Configuration Store stays within its range (R171). -/
def Obligations.StoreWrittenOnlyInConfig : Prop :=
  (∀ (c : Instr) (s t : State), exec c s = .next t →
      t.cs = s.cs ∨ (t.cs = ConfigStore.reset ∧ t.sc.station = .reset) ∨
        (s.sc.station = .config ∧ ((∃ a, c = .setStation a) ∨ (∃ a, c = .setLine a) ∨ ∃ a, c = .setRoute a))) ∧
  (∀ s t : State, StoreInRange s → step s = .next t → StoreInRange t)

/-- Every step makes a transition of Table 2-2 or stays. -/
def Obligations.StationStatesFollowTable : Prop :=
  ∀ s t : State, step s = .next t → legalTransition s.sc.station t.sc.station = true

/-- The invariants below hold in the state after reset. -/
def Obligations.InvariantsHoldAtReset : Prop :=
  PinsFollowState State.reset ∧ ConflictMeansHalt State.reset ∧ StoreInRange State.reset ∧
  CountersInRange State.reset ∧ ReadyListRight State.reset ∧ SourcesRight State.reset ∧ ClaimRight State.reset ∧
  NoDuplicateEntries State.reset ∧ StackRight State.reset ∧ ArrivalsRight State.reset ∧ NoticesMatch State.reset

/-- Every step leaves SRQ#, ALERT# and FAIL at the values their conditions give, and LSDO high-impedance exactly
while LSCS# is high (R117, R154, R164, R166).

SRQ# is low exactly when a PEEK taken then would return an entry (R117). -/
def Obligations.PinsStayRight : Prop :=
  (∀ s t : State, PinsFollowState s → step s = .next t → PinsFollowState t) ∧
  (∀ s : State, PinsFollowState s → s.portOpen →
      (s.pins.srqLow = true ↔ ∃ t, exec (.peek ⟨[], []⟩) s = .next t ∧ t.lp.buffer.result = .ok))

/-- CONFLICT stays present exactly while the station is in HALT (R164). -/
def Obligations.ConflictStaysHalt : Prop :=
  ∀ s t : State, ConflictMeansHalt s → step s = .next t → ConflictMeansHalt t

/-- Every counter and timer stays within the range its table gives. -/
def Obligations.CountersStayInRange : Prop :=
  ∀ s t : State, StoreInRange s → CountersInRange s → step s = .next t → CountersInRange t

/-- Source records keep the fields of their states (R58, R62, R64, R71, R79, R80).

The ready list stays the READY sources, each once, ordered by class (R60). -/
def Obligations.SourcesAndReadyListStayRight : Prop :=
  (∀ s t : State, SourcesRight s → step s = .next t → SourcesRight t) ∧
  (∀ s t : State, ReadyListRight s → SourcesRight s → step s = .next t → ReadyListRight t)

/-- A reservation is held only for the offer decided on, for a FREE entry (R85 to R91).

No two occupied entries ever share an origin and a source (R89). -/
def Obligations.ClaimsNeverDuplicateAnEntry : Prop :=
  (∀ s t : State, ClaimRight s → step s = .next t → ClaimRight t) ∧
  (∀ s t : State, ClaimRight s → NoDuplicateEntries s → step s = .next t → NoDuplicateEntries t)

/-- The in-service stack stays the ACTIVE and DETACHED entries, at most 8, in the class order of R111 (R108, R111). -/
def Obligations.StackStaysNested : Prop :=
  ∀ s t : State, ClaimRight s → StackRight s → step s = .next t → StackRight t

/-- The arrival positions of the n PENDING entries stay 0 to n - 1, each used once (R109). -/
def Obligations.ArrivalsStayDense : Prop :=
  ∀ s t : State, ClaimRight s → ArrivalsRight s → step s = .next t → ArrivalsRight t

/-- Every CLOSING entry keeps exactly one DONE on the Notice List and every unended withdrawal exactly one WITHDRAW
(R75, R121, R136, R137). -/
def Obligations.NoticesStayMatched : Prop :=
  ∀ s t : State, ClaimRight s → NoticesMatch s → step s = .next t → NoticesMatch t
end

