-- ==== Sys2Proof/Laws/Bits.lean ====
section
/-! SUPPORT. Bits and numbers: lengths and round trips of `natBits`, `fieldBits`, `byteBits` and `splitBytes`. -/

namespace Sys2Proof.Machine

theorem natBits_length (w n : Nat) : (natBits w n).length = w := by
  induction w with
  | zero => rfl
  | succ w ih => simp [natBits, ih]

theorem fieldBits_length {w : Nat} (x : BitVec w) : (fieldBits x).length = w := natBits_length w _

theorem bitsNat_append_singleton (bs : List Bool) (b : Bool) : bitsNat (bs ++ [b]) = 2 * bitsNat bs + b.toNat := by
  simp [bitsNat, List.foldl_append]

theorem foldl_bits_start (bs : List Bool) (n : Nat) :
    bs.foldl (fun n b => 2 * n + b.toNat) n = n * 2 ^ bs.length + bitsNat bs := by
  induction bs generalizing n with
  | nil => simp [bitsNat]
  | cons b bs ih =>
    simp only [bitsNat, List.foldl_cons, List.length_cons]
    rw [ih, ih (2 * 0 + b.toNat)]
    ring

theorem bitsNat_cons (b : Bool) (bs : List Bool) : bitsNat (b :: bs) = b.toNat * 2 ^ bs.length + bitsNat bs := by
  have := foldl_bits_start bs (2 * 0 + b.toNat)
  simpa [bitsNat] using this

theorem bitsNat_lt (bs : List Bool) : bitsNat bs < 2 ^ bs.length := by
  induction bs with
  | nil => simp [bitsNat]
  | cons b bs ih =>
    rw [bitsNat_cons, List.length_cons, Nat.pow_succ]
    cases b <;> simp <;> omega

theorem bitsNat_natBits (w n : Nat) : bitsNat (natBits w n) = n % 2 ^ w := by
  induction w with
  | zero => simp [natBits, bitsNat, Nat.mod_one]
  | succ w ih =>
    rw [natBits, bitsNat_cons, natBits_length, ih, Nat.mod_pow_succ, Nat.testBit_eq_decide_div_mod_eq]
    rcases Nat.mod_two_eq_zero_or_one (n / 2 ^ w) with h | h <;> simp [h]
    omega

theorem bitsNat_fieldBits {w : Nat} (x : BitVec w) : bitsNat (fieldBits x) = x.toNat := by
  rw [fieldBits, bitsNat_natBits, Nat.mod_eq_of_lt x.isLt]

theorem byteBits_cons (b : Byte) (bs : List Byte) : byteBits (b :: bs) = fieldBits b ++ byteBits bs := rfl

/-- Whole bytes come apart again, whatever fewer than eight bits follow. -/
theorem splitBytes_byteBits (bs : List Byte) (extra : List Bool) (h : extra.length < 8) :
    splitBytes (byteBits bs ++ extra) = (bs, extra) := by
  induction bs with
  | nil =>
    match extra, h with
    | [], _ | [_], _ | [_, _], _ | [_, _, _], _ | [_, _, _, _], _ | [_, _, _, _, _], _ | [_, _, _, _, _, _], _
    | [_, _, _, _, _, _, _], _ => rfl
    | _ :: _ :: _ :: _ :: _ :: _ :: _ :: _ :: _, h => simp at h; omega
  | cons b bs ih =>
    have hb := fieldBits_length b
    have hv : BitVec.ofNat 8 (bitsNat (fieldBits b)) = b := by rw [bitsNat_fieldBits]; simp
    rw [byteBits_cons, List.append_assoc]
    match hf : fieldBits b, hb with
    | [x0, x1, x2, x3, x4, x5, x6, x7], _ =>
      rw [hf] at hv
      simp only [List.cons_append, List.nil_append, splitBytes, ih, hv]

end Sys2Proof.Machine
end

