-- ==== Sys2Proof/Laws/State.lean ====
section
/-! SUPPORT. One lemma per field per update, each by rfl: the fields of a state after a named update. -/

namespace Sys2Proof.Machine

@[simp] theorem State.setSource_sc (s : State) (k : SourceIndex) (r : SourceRecord) :
    (s.setSource k r).sc = s.sc := rfl

@[simp] theorem State.setSource_cs (s : State) (k : SourceIndex) (r : SourceRecord) :
    (s.setSource k r).cs = s.cs := rfl

@[simp] theorem State.setSource_liu (s : State) (k : SourceIndex) (r : SourceRecord) :
    (s.setSource k r).liu = s.liu := rfl

@[simp] theorem State.setSource_st (s : State) (k : SourceIndex) (r : SourceRecord) :
    (s.setSource k r).st = { s.st with records := s.st.records.set k.val r k.isLt } := rfl

@[simp] theorem State.setSource_ts (s : State) (k : SourceIndex) (r : SourceRecord) :
    (s.setSource k r).ts = s.ts := rfl

@[simp] theorem State.setSource_pbe (s : State) (k : SourceIndex) (r : SourceRecord) :
    (s.setSource k r).pbe = s.pbe := rfl

@[simp] theorem State.setSource_cu (s : State) (k : SourceIndex) (r : SourceRecord) :
    (s.setSource k r).cu = s.cu := rfl

@[simp] theorem State.setSource_svt (s : State) (k : SourceIndex) (r : SourceRecord) :
    (s.setSource k r).svt = s.svt := rfl

@[simp] theorem State.setSource_nl (s : State) (k : SourceIndex) (r : SourceRecord) :
    (s.setSource k r).nl = s.nl := rfl

@[simp] theorem State.setSource_lp (s : State) (k : SourceIndex) (r : SourceRecord) :
    (s.setSource k r).lp = s.lp := rfl

@[simp] theorem State.setSource_pins (s : State) (k : SourceIndex) (r : SourceRecord) :
    (s.setSource k r).pins = s.pins := rfl

@[simp] theorem State.setSource_resetPeriods (s : State) (k : SourceIndex) (r : SourceRecord) :
    (s.setSource k r).resetPeriods = s.resetPeriods := rfl

@[simp] theorem State.setSource_ticks (s : State) (k : SourceIndex) (r : SourceRecord) :
    (s.setSource k r).ticks = s.ticks := rfl

@[simp] theorem State.setSource_pending (s : State) (k : SourceIndex) (r : SourceRecord) :
    (s.setSource k r).pending = s.pending := rfl

@[simp] theorem State.setLineState_sc (s : State) (n : LineIndex) (l : LineState) :
    (s.setLineState n l).sc = s.sc := rfl

@[simp] theorem State.setLineState_cs (s : State) (n : LineIndex) (l : LineState) :
    (s.setLineState n l).cs = s.cs := rfl

@[simp] theorem State.setLineState_liu (s : State) (n : LineIndex) (l : LineState) :
    (s.setLineState n l).liu = { s.liu with lines := s.liu.lines.set n.val l n.isLt } := rfl

@[simp] theorem State.setLineState_st (s : State) (n : LineIndex) (l : LineState) :
    (s.setLineState n l).st = s.st := rfl

@[simp] theorem State.setLineState_ts (s : State) (n : LineIndex) (l : LineState) :
    (s.setLineState n l).ts = s.ts := rfl

@[simp] theorem State.setLineState_pbe (s : State) (n : LineIndex) (l : LineState) :
    (s.setLineState n l).pbe = s.pbe := rfl

@[simp] theorem State.setLineState_cu (s : State) (n : LineIndex) (l : LineState) :
    (s.setLineState n l).cu = s.cu := rfl

@[simp] theorem State.setLineState_svt (s : State) (n : LineIndex) (l : LineState) :
    (s.setLineState n l).svt = s.svt := rfl

@[simp] theorem State.setLineState_nl (s : State) (n : LineIndex) (l : LineState) :
    (s.setLineState n l).nl = s.nl := rfl

@[simp] theorem State.setLineState_lp (s : State) (n : LineIndex) (l : LineState) :
    (s.setLineState n l).lp = s.lp := rfl

@[simp] theorem State.setLineState_pins (s : State) (n : LineIndex) (l : LineState) :
    (s.setLineState n l).pins = s.pins := rfl

@[simp] theorem State.setLineState_resetPeriods (s : State) (n : LineIndex) (l : LineState) :
    (s.setLineState n l).resetPeriods = s.resetPeriods := rfl

@[simp] theorem State.setLineState_ticks (s : State) (n : LineIndex) (l : LineState) :
    (s.setLineState n l).ticks = s.ticks := rfl

@[simp] theorem State.setLineState_pending (s : State) (n : LineIndex) (l : LineState) :
    (s.setLineState n l).pending = s.pending := rfl

@[simp] theorem State.joinReadyList_sc (s : State) (k : SourceIndex) :
    (s.joinReadyList k).sc = s.sc := rfl

@[simp] theorem State.joinReadyList_cs (s : State) (k : SourceIndex) :
    (s.joinReadyList k).cs = s.cs := rfl

@[simp] theorem State.joinReadyList_liu (s : State) (k : SourceIndex) :
    (s.joinReadyList k).liu = s.liu := rfl

@[simp] theorem State.joinReadyList_st (s : State) (k : SourceIndex) :
    (s.joinReadyList k).st = { s.st with ready := joinReady (fun j => (s.route j).cls) k s.st.ready } := rfl

@[simp] theorem State.joinReadyList_ts (s : State) (k : SourceIndex) :
    (s.joinReadyList k).ts = s.ts := rfl

@[simp] theorem State.joinReadyList_pbe (s : State) (k : SourceIndex) :
    (s.joinReadyList k).pbe = s.pbe := rfl

@[simp] theorem State.joinReadyList_cu (s : State) (k : SourceIndex) :
    (s.joinReadyList k).cu = s.cu := rfl

@[simp] theorem State.joinReadyList_svt (s : State) (k : SourceIndex) :
    (s.joinReadyList k).svt = s.svt := rfl

@[simp] theorem State.joinReadyList_nl (s : State) (k : SourceIndex) :
    (s.joinReadyList k).nl = s.nl := rfl

@[simp] theorem State.joinReadyList_lp (s : State) (k : SourceIndex) :
    (s.joinReadyList k).lp = s.lp := rfl

@[simp] theorem State.joinReadyList_pins (s : State) (k : SourceIndex) :
    (s.joinReadyList k).pins = s.pins := rfl

@[simp] theorem State.joinReadyList_resetPeriods (s : State) (k : SourceIndex) :
    (s.joinReadyList k).resetPeriods = s.resetPeriods := rfl

@[simp] theorem State.joinReadyList_ticks (s : State) (k : SourceIndex) :
    (s.joinReadyList k).ticks = s.ticks := rfl

@[simp] theorem State.joinReadyList_pending (s : State) (k : SourceIndex) :
    (s.joinReadyList k).pending = s.pending := rfl

@[simp] theorem State.leaveReadyList_sc (s : State) (k : SourceIndex) :
    (s.leaveReadyList k).sc = s.sc := rfl

@[simp] theorem State.leaveReadyList_cs (s : State) (k : SourceIndex) :
    (s.leaveReadyList k).cs = s.cs := rfl

@[simp] theorem State.leaveReadyList_liu (s : State) (k : SourceIndex) :
    (s.leaveReadyList k).liu = s.liu := rfl

@[simp] theorem State.leaveReadyList_st (s : State) (k : SourceIndex) :
    (s.leaveReadyList k).st = { s.st with ready := s.st.ready.filter fun j => j != k } := rfl

@[simp] theorem State.leaveReadyList_ts (s : State) (k : SourceIndex) :
    (s.leaveReadyList k).ts = s.ts := rfl

@[simp] theorem State.leaveReadyList_pbe (s : State) (k : SourceIndex) :
    (s.leaveReadyList k).pbe = s.pbe := rfl

@[simp] theorem State.leaveReadyList_cu (s : State) (k : SourceIndex) :
    (s.leaveReadyList k).cu = s.cu := rfl

@[simp] theorem State.leaveReadyList_svt (s : State) (k : SourceIndex) :
    (s.leaveReadyList k).svt = s.svt := rfl

@[simp] theorem State.leaveReadyList_nl (s : State) (k : SourceIndex) :
    (s.leaveReadyList k).nl = s.nl := rfl

@[simp] theorem State.leaveReadyList_lp (s : State) (k : SourceIndex) :
    (s.leaveReadyList k).lp = s.lp := rfl

@[simp] theorem State.leaveReadyList_pins (s : State) (k : SourceIndex) :
    (s.leaveReadyList k).pins = s.pins := rfl

@[simp] theorem State.leaveReadyList_resetPeriods (s : State) (k : SourceIndex) :
    (s.leaveReadyList k).resetPeriods = s.resetPeriods := rfl

@[simp] theorem State.leaveReadyList_ticks (s : State) (k : SourceIndex) :
    (s.leaveReadyList k).ticks = s.ticks := rfl

@[simp] theorem State.leaveReadyList_pending (s : State) (k : SourceIndex) :
    (s.leaveReadyList k).pending = s.pending := rfl

@[simp] theorem State.queueNotice_sc (s : State) (n : Notice) :
    (s.queueNotice n).sc = s.sc := rfl

@[simp] theorem State.queueNotice_cs (s : State) (n : Notice) :
    (s.queueNotice n).cs = s.cs := rfl

@[simp] theorem State.queueNotice_liu (s : State) (n : Notice) :
    (s.queueNotice n).liu = s.liu := rfl

@[simp] theorem State.queueNotice_st (s : State) (n : Notice) :
    (s.queueNotice n).st = s.st := rfl

@[simp] theorem State.queueNotice_ts (s : State) (n : Notice) :
    (s.queueNotice n).ts = s.ts := rfl

@[simp] theorem State.queueNotice_pbe (s : State) (n : Notice) :
    (s.queueNotice n).pbe = s.pbe := rfl

@[simp] theorem State.queueNotice_cu (s : State) (n : Notice) :
    (s.queueNotice n).cu = s.cu := rfl

@[simp] theorem State.queueNotice_svt (s : State) (n : Notice) :
    (s.queueNotice n).svt = s.svt := rfl

@[simp] theorem State.queueNotice_nl (s : State) (n : Notice) :
    (s.queueNotice n).nl = s.nl ++ [n] := rfl

@[simp] theorem State.queueNotice_lp (s : State) (n : Notice) :
    (s.queueNotice n).lp = s.lp := rfl

@[simp] theorem State.queueNotice_pins (s : State) (n : Notice) :
    (s.queueNotice n).pins = s.pins := rfl

@[simp] theorem State.queueNotice_resetPeriods (s : State) (n : Notice) :
    (s.queueNotice n).resetPeriods = s.resetPeriods := rfl

@[simp] theorem State.queueNotice_ticks (s : State) (n : Notice) :
    (s.queueNotice n).ticks = s.ticks := rfl

@[simp] theorem State.queueNotice_pending (s : State) (n : Notice) :
    (s.queueNotice n).pending = s.pending := rfl

@[simp] theorem State.removeNotice_sc (s : State) (r : NoticeRef) :
    (s.removeNotice r).sc = s.sc := rfl

@[simp] theorem State.removeNotice_cs (s : State) (r : NoticeRef) :
    (s.removeNotice r).cs = s.cs := rfl

@[simp] theorem State.removeNotice_liu (s : State) (r : NoticeRef) :
    (s.removeNotice r).liu = s.liu := rfl

@[simp] theorem State.removeNotice_st (s : State) (r : NoticeRef) :
    (s.removeNotice r).st = s.st := rfl

@[simp] theorem State.removeNotice_ts (s : State) (r : NoticeRef) :
    (s.removeNotice r).ts = s.ts := rfl

@[simp] theorem State.removeNotice_pbe (s : State) (r : NoticeRef) :
    (s.removeNotice r).pbe = s.pbe := rfl

@[simp] theorem State.removeNotice_cu (s : State) (r : NoticeRef) :
    (s.removeNotice r).cu = s.cu := rfl

@[simp] theorem State.removeNotice_svt (s : State) (r : NoticeRef) :
    (s.removeNotice r).svt = s.svt := rfl

@[simp] theorem State.removeNotice_nl (s : State) (r : NoticeRef) :
    (s.removeNotice r).nl = s.nl.filter fun n => n.ref != r := rfl

@[simp] theorem State.removeNotice_lp (s : State) (r : NoticeRef) :
    (s.removeNotice r).lp = s.lp := rfl

@[simp] theorem State.removeNotice_pins (s : State) (r : NoticeRef) :
    (s.removeNotice r).pins = s.pins := rfl

@[simp] theorem State.removeNotice_resetPeriods (s : State) (r : NoticeRef) :
    (s.removeNotice r).resetPeriods = s.resetPeriods := rfl

@[simp] theorem State.removeNotice_ticks (s : State) (r : NoticeRef) :
    (s.removeNotice r).ticks = s.ticks := rfl

@[simp] theorem State.removeNotice_pending (s : State) (r : NoticeRef) :
    (s.removeNotice r).pending = s.pending := rfl

@[simp] theorem State.removeNoticesTo_sc (s : State) (x : StationId) :
    (s.removeNoticesTo x).sc = s.sc := rfl

@[simp] theorem State.removeNoticesTo_cs (s : State) (x : StationId) :
    (s.removeNoticesTo x).cs = s.cs := rfl

@[simp] theorem State.removeNoticesTo_liu (s : State) (x : StationId) :
    (s.removeNoticesTo x).liu = s.liu := rfl

@[simp] theorem State.removeNoticesTo_st (s : State) (x : StationId) :
    (s.removeNoticesTo x).st = s.st := rfl

@[simp] theorem State.removeNoticesTo_ts (s : State) (x : StationId) :
    (s.removeNoticesTo x).ts = s.ts := rfl

@[simp] theorem State.removeNoticesTo_pbe (s : State) (x : StationId) :
    (s.removeNoticesTo x).pbe = s.pbe := rfl

@[simp] theorem State.removeNoticesTo_cu (s : State) (x : StationId) :
    (s.removeNoticesTo x).cu = s.cu := rfl

@[simp] theorem State.removeNoticesTo_svt (s : State) (x : StationId) :
    (s.removeNoticesTo x).svt = s.svt := rfl

@[simp] theorem State.removeNoticesTo_nl (s : State) (x : StationId) :
    (s.removeNoticesTo x).nl = s.nl.filter fun n => n.addressee != x := rfl

@[simp] theorem State.removeNoticesTo_lp (s : State) (x : StationId) :
    (s.removeNoticesTo x).lp = s.lp := rfl

@[simp] theorem State.removeNoticesTo_pins (s : State) (x : StationId) :
    (s.removeNoticesTo x).pins = s.pins := rfl

@[simp] theorem State.removeNoticesTo_resetPeriods (s : State) (x : StationId) :
    (s.removeNoticesTo x).resetPeriods = s.resetPeriods := rfl

@[simp] theorem State.removeNoticesTo_ticks (s : State) (x : StationId) :
    (s.removeNoticesTo x).ticks = s.ticks := rfl

@[simp] theorem State.removeNoticesTo_pending (s : State) (x : StationId) :
    (s.removeNoticesTo x).pending = s.pending := rfl

@[simp] theorem State.respond_sc (s : State) (r : ResultCode) (c : Option Byte) (d : List Byte) :
    (s.respond r c d).sc = s.sc := rfl

@[simp] theorem State.respond_cs (s : State) (r : ResultCode) (c : Option Byte) (d : List Byte) :
    (s.respond r c d).cs = s.cs := rfl

@[simp] theorem State.respond_liu (s : State) (r : ResultCode) (c : Option Byte) (d : List Byte) :
    (s.respond r c d).liu = s.liu := rfl

@[simp] theorem State.respond_st (s : State) (r : ResultCode) (c : Option Byte) (d : List Byte) :
    (s.respond r c d).st = s.st := rfl

@[simp] theorem State.respond_ts (s : State) (r : ResultCode) (c : Option Byte) (d : List Byte) :
    (s.respond r c d).ts = s.ts := rfl

@[simp] theorem State.respond_pbe (s : State) (r : ResultCode) (c : Option Byte) (d : List Byte) :
    (s.respond r c d).pbe = s.pbe := rfl

@[simp] theorem State.respond_cu (s : State) (r : ResultCode) (c : Option Byte) (d : List Byte) :
    (s.respond r c d).cu = s.cu := rfl

@[simp] theorem State.respond_svt (s : State) (r : ResultCode) (c : Option Byte) (d : List Byte) :
    (s.respond r c d).svt = s.svt := rfl

@[simp] theorem State.respond_nl (s : State) (r : ResultCode) (c : Option Byte) (d : List Byte) :
    (s.respond r c d).nl = s.nl := rfl

@[simp] theorem State.respond_lp (s : State) (r : ResultCode) (c : Option Byte) (d : List Byte) :
    (s.respond r c d).lp = { s.lp with buffer := { result := r, code := c, data := d } } := rfl

@[simp] theorem State.respond_pins (s : State) (r : ResultCode) (c : Option Byte) (d : List Byte) :
    (s.respond r c d).pins = s.pins := rfl

@[simp] theorem State.respond_resetPeriods (s : State) (r : ResultCode) (c : Option Byte) (d : List Byte) :
    (s.respond r c d).resetPeriods = s.resetPeriods := rfl

@[simp] theorem State.respond_ticks (s : State) (r : ResultCode) (c : Option Byte) (d : List Byte) :
    (s.respond r c d).ticks = s.ticks := rfl

@[simp] theorem State.respond_pending (s : State) (r : ResultCode) (c : Option Byte) (d : List Byte) :
    (s.respond r c d).pending = s.pending := rfl

@[simp] theorem State.setDrop_sc (s : State) (b : Bool) :
    (s.setDrop b).sc = s.sc := rfl

@[simp] theorem State.setDrop_cs (s : State) (b : Bool) :
    (s.setDrop b).cs = s.cs := rfl

@[simp] theorem State.setDrop_liu (s : State) (b : Bool) :
    (s.setDrop b).liu = s.liu := rfl

@[simp] theorem State.setDrop_st (s : State) (b : Bool) :
    (s.setDrop b).st = s.st := rfl

@[simp] theorem State.setDrop_ts (s : State) (b : Bool) :
    (s.setDrop b).ts = s.ts := rfl

@[simp] theorem State.setDrop_pbe (s : State) (b : Bool) :
    (s.setDrop b).pbe = s.pbe := rfl

@[simp] theorem State.setDrop_cu (s : State) (b : Bool) :
    (s.setDrop b).cu = s.cu := rfl

@[simp] theorem State.setDrop_svt (s : State) (b : Bool) :
    (s.setDrop b).svt = s.svt := rfl

@[simp] theorem State.setDrop_nl (s : State) (b : Bool) :
    (s.setDrop b).nl = s.nl := rfl

@[simp] theorem State.setDrop_lp (s : State) (b : Bool) :
    (s.setDrop b).lp = { s.lp with alerts := { s.lp.alerts with drop := b } } := rfl

@[simp] theorem State.setDrop_pins (s : State) (b : Bool) :
    (s.setDrop b).pins = s.pins := rfl

@[simp] theorem State.setDrop_resetPeriods (s : State) (b : Bool) :
    (s.setDrop b).resetPeriods = s.resetPeriods := rfl

@[simp] theorem State.setDrop_ticks (s : State) (b : Bool) :
    (s.setDrop b).ticks = s.ticks := rfl

@[simp] theorem State.setDrop_pending (s : State) (b : Bool) :
    (s.setDrop b).pending = s.pending := rfl

@[simp] theorem State.setConflict_sc (s : State) (b : Bool) :
    (s.setConflict b).sc = s.sc := rfl

@[simp] theorem State.setConflict_cs (s : State) (b : Bool) :
    (s.setConflict b).cs = s.cs := rfl

@[simp] theorem State.setConflict_liu (s : State) (b : Bool) :
    (s.setConflict b).liu = s.liu := rfl

@[simp] theorem State.setConflict_st (s : State) (b : Bool) :
    (s.setConflict b).st = s.st := rfl

@[simp] theorem State.setConflict_ts (s : State) (b : Bool) :
    (s.setConflict b).ts = s.ts := rfl

@[simp] theorem State.setConflict_pbe (s : State) (b : Bool) :
    (s.setConflict b).pbe = s.pbe := rfl

@[simp] theorem State.setConflict_cu (s : State) (b : Bool) :
    (s.setConflict b).cu = s.cu := rfl

@[simp] theorem State.setConflict_svt (s : State) (b : Bool) :
    (s.setConflict b).svt = s.svt := rfl

@[simp] theorem State.setConflict_nl (s : State) (b : Bool) :
    (s.setConflict b).nl = s.nl := rfl

@[simp] theorem State.setConflict_lp (s : State) (b : Bool) :
    (s.setConflict b).lp = { s.lp with alerts := { s.lp.alerts with conflict := b } } := rfl

@[simp] theorem State.setConflict_pins (s : State) (b : Bool) :
    (s.setConflict b).pins = s.pins := rfl

@[simp] theorem State.setConflict_resetPeriods (s : State) (b : Bool) :
    (s.setConflict b).resetPeriods = s.resetPeriods := rfl

@[simp] theorem State.setConflict_ticks (s : State) (b : Bool) :
    (s.setConflict b).ticks = s.ticks := rfl

@[simp] theorem State.setConflict_pending (s : State) (b : Bool) :
    (s.setConflict b).pending = s.pending := rfl

@[simp] theorem State.drove_sc (s : State) (b : List Bool) :
    (s.drove b).sc = s.sc := rfl

@[simp] theorem State.drove_cs (s : State) (b : List Bool) :
    (s.drove b).cs = s.cs := rfl

@[simp] theorem State.drove_liu (s : State) (b : List Bool) :
    (s.drove b).liu = s.liu := rfl

@[simp] theorem State.drove_st (s : State) (b : List Bool) :
    (s.drove b).st = s.st := rfl

@[simp] theorem State.drove_ts (s : State) (b : List Bool) :
    (s.drove b).ts = s.ts := rfl

@[simp] theorem State.drove_pbe (s : State) (b : List Bool) :
    (s.drove b).pbe = s.pbe := rfl

@[simp] theorem State.drove_cu (s : State) (b : List Bool) :
    (s.drove b).cu = s.cu := rfl

@[simp] theorem State.drove_svt (s : State) (b : List Bool) :
    (s.drove b).svt = s.svt := rfl

@[simp] theorem State.drove_nl (s : State) (b : List Bool) :
    (s.drove b).nl = s.nl := rfl

@[simp] theorem State.drove_lp (s : State) (b : List Bool) :
    (s.drove b).lp = s.lp := rfl

@[simp] theorem State.drove_pins (s : State) (b : List Bool) :
    (s.drove b).pins = { s.pins with pbdOut := b } := rfl

@[simp] theorem State.drove_resetPeriods (s : State) (b : List Bool) :
    (s.drove b).resetPeriods = s.resetPeriods := rfl

@[simp] theorem State.drove_ticks (s : State) (b : List Bool) :
    (s.drove b).ticks = s.ticks := rfl

@[simp] theorem State.drove_pending (s : State) (b : List Bool) :
    (s.drove b).pending = s.pending := rfl

@[simp] theorem State.settle_sc (s : State) :
    (s.settle).sc = s.sc := rfl

@[simp] theorem State.settle_cs (s : State) :
    (s.settle).cs = s.cs := rfl

@[simp] theorem State.settle_liu (s : State) :
    (s.settle).liu = s.liu := rfl

@[simp] theorem State.settle_st (s : State) :
    (s.settle).st = s.st := rfl

@[simp] theorem State.settle_ts (s : State) :
    (s.settle).ts = s.ts := rfl

@[simp] theorem State.settle_pbe (s : State) :
    (s.settle).pbe = s.pbe := rfl

@[simp] theorem State.settle_cu (s : State) :
    (s.settle).cu = s.cu := rfl

@[simp] theorem State.settle_svt (s : State) :
    (s.settle).svt = s.svt := rfl

@[simp] theorem State.settle_nl (s : State) :
    (s.settle).nl = s.nl := rfl

@[simp] theorem State.settle_lp (s : State) :
    (s.settle).lp = { s.lp with alerts := { s.lp.alerts with fail := s.anyFailed } } := rfl

@[simp] theorem State.settle_pins (s : State) :
    (s.settle).pins = { s.pins with
      srqLow := s.srqCondition,
      alertLow := ({ s.lp.alerts with fail := s.anyFailed } : Alerts).nonempty } := rfl

@[simp] theorem State.settle_resetPeriods (s : State) :
    (s.settle).resetPeriods = s.resetPeriods := rfl

@[simp] theorem State.settle_ticks (s : State) :
    (s.settle).ticks = s.ticks := rfl

@[simp] theorem State.settle_pending (s : State) :
    (s.settle).pending = s.pending := rfl

@[simp] theorem State.markReported_sc (s : State) :
    s.markReported.sc = s.sc := rfl

@[simp] theorem State.markReported_cs (s : State) :
    s.markReported.cs = s.cs := rfl

@[simp] theorem State.markReported_liu (s : State) :
    s.markReported.liu = s.liu := rfl

@[simp] theorem State.markReported_st (s : State) :
    s.markReported.st = s.st := rfl

@[simp] theorem State.markReported_pbe (s : State) :
    s.markReported.pbe = s.pbe := rfl

@[simp] theorem State.markReported_cu (s : State) :
    s.markReported.cu = s.cu := rfl

@[simp] theorem State.markReported_svt (s : State) :
    s.markReported.svt = s.svt := rfl

@[simp] theorem State.markReported_nl (s : State) :
    s.markReported.nl = s.nl := rfl

@[simp] theorem State.markReported_lp (s : State) :
    s.markReported.lp = s.lp := rfl

@[simp] theorem State.markReported_pins (s : State) :
    s.markReported.pins = s.pins := rfl

@[simp] theorem State.markReported_resetPeriods (s : State) :
    s.markReported.resetPeriods = s.resetPeriods := rfl

@[simp] theorem State.markReported_ticks (s : State) :
    s.markReported.ticks = s.ticks := rfl

@[simp] theorem State.markReported_pending (s : State) :
    s.markReported.pending = s.pending := rfl

@[simp] theorem State.markReported_ts (s : State) :
    s.markReported.ts = { inHand := s.ts.inHand.map fun h => { h with item := .reported } } := rfl

@[simp] theorem State.clockFrame_sc (s : State) (b : List Bool) (n : Nat) :
    (s.clockFrame b n).sc = s.sc := rfl

@[simp] theorem State.clockFrame_cs (s : State) (b : List Bool) (n : Nat) :
    (s.clockFrame b n).cs = s.cs := rfl

@[simp] theorem State.clockFrame_liu (s : State) (b : List Bool) (n : Nat) :
    (s.clockFrame b n).liu = s.liu := rfl

@[simp] theorem State.clockFrame_st (s : State) (b : List Bool) (n : Nat) :
    (s.clockFrame b n).st = s.st := rfl

@[simp] theorem State.clockFrame_ts (s : State) (b : List Bool) (n : Nat) :
    (s.clockFrame b n).ts = s.ts := rfl

@[simp] theorem State.clockFrame_pbe (s : State) (b : List Bool) (n : Nat) :
    (s.clockFrame b n).pbe = s.pbe := rfl

@[simp] theorem State.clockFrame_cu (s : State) (b : List Bool) (n : Nat) :
    (s.clockFrame b n).cu = s.cu := rfl

@[simp] theorem State.clockFrame_svt (s : State) (b : List Bool) (n : Nat) :
    (s.clockFrame b n).svt = s.svt := rfl

@[simp] theorem State.clockFrame_nl (s : State) (b : List Bool) (n : Nat) :
    (s.clockFrame b n).nl = s.nl := rfl

@[simp] theorem State.clockFrame_resetPeriods (s : State) (b : List Bool) (n : Nat) :
    (s.clockFrame b n).resetPeriods = s.resetPeriods := rfl

@[simp] theorem State.clockFrame_ticks (s : State) (b : List Bool) (n : Nat) :
    (s.clockFrame b n).ticks = s.ticks := rfl

@[simp] theorem State.clockFrame_pending (s : State) (b : List Bool) (n : Nat) :
    (s.clockFrame b n).pending = s.pending := rfl

@[simp] theorem State.leaveFrame_sc (s : State) :
    (s.leaveFrame).sc = s.sc := rfl

@[simp] theorem State.leaveFrame_cs (s : State) :
    (s.leaveFrame).cs = s.cs := rfl

@[simp] theorem State.leaveFrame_liu (s : State) :
    (s.leaveFrame).liu = s.liu := rfl

@[simp] theorem State.leaveFrame_st (s : State) :
    (s.leaveFrame).st = s.st := rfl

@[simp] theorem State.leaveFrame_ts (s : State) :
    (s.leaveFrame).ts = { inHand := none } := rfl

@[simp] theorem State.leaveFrame_pbe (s : State) :
    (s.leaveFrame).pbe = { s.pbe with role := .noRole, current := [], claim := .notClaiming, driving := false } := rfl

@[simp] theorem State.leaveFrame_cu (s : State) :
    (s.leaveFrame).cu = { s.cu with reservation := none, role := .noRole } := rfl

@[simp] theorem State.leaveFrame_svt (s : State) :
    (s.leaveFrame).svt = s.svt := rfl

@[simp] theorem State.leaveFrame_nl (s : State) :
    (s.leaveFrame).nl = s.nl := rfl

@[simp] theorem State.leaveFrame_lp (s : State) :
    (s.leaveFrame).lp = s.lp := rfl

@[simp] theorem State.leaveFrame_pins (s : State) :
    (s.leaveFrame).pins = s.pins := rfl

@[simp] theorem State.leaveFrame_resetPeriods (s : State) :
    (s.leaveFrame).resetPeriods = s.resetPeriods := rfl

@[simp] theorem State.leaveFrame_ticks (s : State) :
    (s.leaveFrame).ticks = s.ticks := rfl

@[simp] theorem State.leaveFrame_pending (s : State) :
    (s.leaveFrame).pending = s.pending := rfl

@[simp] theorem State.endFrame_sc (s : State) :
    (s.endFrame).sc = s.sc := rfl

@[simp] theorem State.endFrame_cs (s : State) :
    (s.endFrame).cs = s.cs := rfl

@[simp] theorem State.endFrame_liu (s : State) :
    (s.endFrame).liu = s.liu := rfl

@[simp] theorem State.endFrame_st (s : State) :
    (s.endFrame).st = s.st := rfl

@[simp] theorem State.endFrame_ts (s : State) :
    (s.endFrame).ts = { inHand := none } := rfl

@[simp] theorem State.endFrame_pbe (s : State) :
    (s.endFrame).pbe = { s.pbe with
      role := .noRole, current := [], claim := .notClaiming, driving := false, idleCount := 0 } := rfl

@[simp] theorem State.endFrame_cu (s : State) :
    (s.endFrame).cu = s.cu := rfl

@[simp] theorem State.endFrame_svt (s : State) :
    (s.endFrame).svt = s.svt := rfl

@[simp] theorem State.endFrame_nl (s : State) :
    (s.endFrame).nl = s.nl := rfl

@[simp] theorem State.endFrame_lp (s : State) :
    (s.endFrame).lp = s.lp := rfl

@[simp] theorem State.endFrame_pins (s : State) :
    (s.endFrame).pins = s.pins := rfl

@[simp] theorem State.endFrame_resetPeriods (s : State) :
    (s.endFrame).resetPeriods = s.resetPeriods := rfl

@[simp] theorem State.endFrame_ticks (s : State) :
    (s.endFrame).ticks = s.ticks := rfl

@[simp] theorem State.endFrame_pending (s : State) :
    (s.endFrame).pending = s.pending := rfl

@[simp] theorem State.clearRunState_sc (s : State) :
    (s.clearRunState).sc = s.sc := rfl

@[simp] theorem State.clearRunState_cs (s : State) :
    (s.clearRunState).cs = s.cs := rfl

@[simp] theorem State.clearRunState_liu (s : State) :
    (s.clearRunState).liu = LineUnit.reset := rfl

@[simp] theorem State.clearRunState_st (s : State) :
    (s.clearRunState).st = SourceTable.reset := rfl

@[simp] theorem State.clearRunState_ts (s : State) :
    (s.clearRunState).ts = { inHand := none } := rfl

@[simp] theorem State.clearRunState_pbe (s : State) :
    (s.clearRunState).pbe = BusEngine.reset := rfl

@[simp] theorem State.clearRunState_cu (s : State) :
    (s.clearRunState).cu = ClaimUnit.reset := rfl

@[simp] theorem State.clearRunState_svt (s : State) :
    (s.clearRunState).svt = ServiceTable.reset := rfl

@[simp] theorem State.clearRunState_nl (s : State) :
    (s.clearRunState).nl = [] := rfl

@[simp] theorem State.clearRunState_lp (s : State) :
    (s.clearRunState).lp = s.lp := rfl

@[simp] theorem State.clearRunState_pins (s : State) :
    (s.clearRunState).pins = s.pins := rfl

@[simp] theorem State.clearRunState_resetPeriods (s : State) :
    (s.clearRunState).resetPeriods = s.resetPeriods := rfl

@[simp] theorem State.clearRunState_ticks (s : State) :
    (s.clearRunState).ticks = s.ticks := rfl

@[simp] theorem State.clearRunState_pending (s : State) :
    (s.clearRunState).pending = s.pending := rfl

@[simp] theorem State.enterJoin_sc (s : State) :
    (s.enterJoin).sc = { s.sc with station := .join, presence := 0, helloPending := true, helloRetry := none } := rfl

@[simp] theorem State.enterJoin_cs (s : State) :
    (s.enterJoin).cs = s.cs := rfl

@[simp] theorem State.enterJoin_liu (s : State) :
    (s.enterJoin).liu = LineUnit.reset := rfl

@[simp] theorem State.enterJoin_st (s : State) :
    (s.enterJoin).st = SourceTable.reset := rfl

@[simp] theorem State.enterJoin_ts (s : State) :
    (s.enterJoin).ts = { inHand := none } := rfl

@[simp] theorem State.enterJoin_pbe (s : State) :
    (s.enterJoin).pbe = BusEngine.reset := rfl

@[simp] theorem State.enterJoin_cu (s : State) :
    (s.enterJoin).cu = ClaimUnit.reset := rfl

@[simp] theorem State.enterJoin_svt (s : State) :
    (s.enterJoin).svt = ServiceTable.reset := rfl

@[simp] theorem State.enterJoin_nl (s : State) :
    (s.enterJoin).nl = [] := rfl

@[simp] theorem State.enterJoin_lp (s : State) :
    (s.enterJoin).lp = s.lp := rfl

@[simp] theorem State.enterJoin_pins (s : State) :
    (s.enterJoin).pins = s.pins := rfl

@[simp] theorem State.enterJoin_resetPeriods (s : State) :
    (s.enterJoin).resetPeriods = s.resetPeriods := rfl

@[simp] theorem State.enterJoin_ticks (s : State) :
    (s.enterJoin).ticks = s.ticks := rfl

@[simp] theorem State.enterJoin_pending (s : State) :
    (s.enterJoin).pending = s.pending := rfl

@[simp] theorem State.enterReset_sc (s : State) :
    (s.enterReset).sc = { station := .reset, id := s.sc.id, presence := 0, helloPending := false, helloRetry := none } := rfl

@[simp] theorem State.enterReset_cs (s : State) :
    (s.enterReset).cs = ConfigStore.reset := rfl

@[simp] theorem State.enterReset_liu (s : State) :
    (s.enterReset).liu = LineUnit.reset := rfl

@[simp] theorem State.enterReset_st (s : State) :
    (s.enterReset).st = SourceTable.reset := rfl

@[simp] theorem State.enterReset_ts (s : State) :
    (s.enterReset).ts = { inHand := none } := rfl

@[simp] theorem State.enterReset_pbe (s : State) :
    (s.enterReset).pbe = BusEngine.reset := rfl

@[simp] theorem State.enterReset_cu (s : State) :
    (s.enterReset).cu = ClaimUnit.reset := rfl

@[simp] theorem State.enterReset_svt (s : State) :
    (s.enterReset).svt = ServiceTable.reset := rfl

@[simp] theorem State.enterReset_nl (s : State) :
    (s.enterReset).nl = [] := rfl

@[simp] theorem State.enterReset_lp (s : State) :
    (s.enterReset).lp = { LocalPort.reset with frame := s.lp.frame.afterReset s.lp.buffer } := rfl

@[simp] theorem State.enterReset_pins (s : State) :
    (s.enterReset).pins =
      { s.pins with srqLow := false, alertLow := false, lsdo := s.lsdoInReset, pbdOut := [] } := rfl

@[simp] theorem State.enterReset_resetPeriods (s : State) :
    (s.enterReset).resetPeriods = s.resetPeriods := rfl

@[simp] theorem State.enterReset_ticks (s : State) :
    (s.enterReset).ticks = s.ticks := rfl

@[simp] theorem State.enterReset_pending (s : State) :
    (s.enterReset).pending = s.pending := rfl

@[simp] theorem State.endReset_sc (s : State) (i : StationId) :
    (s.endReset i).sc = { s.sc with station := .config, id := i } := rfl

@[simp] theorem State.endReset_cs (s : State) (i : StationId) :
    (s.endReset i).cs = s.cs := rfl

@[simp] theorem State.endReset_liu (s : State) (i : StationId) :
    (s.endReset i).liu = s.liu := rfl

@[simp] theorem State.endReset_st (s : State) (i : StationId) :
    (s.endReset i).st = s.st := rfl

@[simp] theorem State.endReset_ts (s : State) (i : StationId) :
    (s.endReset i).ts = s.ts := rfl

@[simp] theorem State.endReset_pbe (s : State) (i : StationId) :
    (s.endReset i).pbe = s.pbe := rfl

@[simp] theorem State.endReset_cu (s : State) (i : StationId) :
    (s.endReset i).cu = s.cu := rfl

@[simp] theorem State.endReset_svt (s : State) (i : StationId) :
    (s.endReset i).svt = s.svt := rfl

@[simp] theorem State.endReset_nl (s : State) (i : StationId) :
    (s.endReset i).nl = s.nl := rfl

@[simp] theorem State.endReset_lp (s : State) (i : StationId) :
    (s.endReset i).lp = s.lp := rfl

@[simp] theorem State.endReset_pins (s : State) (i : StationId) :
    (s.endReset i).pins = { s.pins with straps := i, resetLow := false, vddLow := false } := rfl

@[simp] theorem State.endReset_resetPeriods (s : State) (i : StationId) :
    (s.endReset i).resetPeriods = 0 := rfl

@[simp] theorem State.endReset_ticks (s : State) (i : StationId) :
    (s.endReset i).ticks = s.ticks := rfl

@[simp] theorem State.endReset_pending (s : State) (i : StationId) :
    (s.endReset i).pending = s.pending := rfl

@[simp] theorem State.tickNotices_sc (s : State) :
    (s.tickNotices).sc = s.sc := rfl

@[simp] theorem State.tickNotices_cs (s : State) :
    (s.tickNotices).cs = s.cs := rfl

@[simp] theorem State.tickNotices_liu (s : State) :
    (s.tickNotices).liu = s.liu := rfl

@[simp] theorem State.tickNotices_st (s : State) :
    (s.tickNotices).st = s.st := rfl

@[simp] theorem State.tickNotices_ts (s : State) :
    (s.tickNotices).ts = s.ts := rfl

@[simp] theorem State.tickNotices_pbe (s : State) :
    (s.tickNotices).pbe = s.pbe := rfl

@[simp] theorem State.tickNotices_cu (s : State) :
    (s.tickNotices).cu = s.cu := rfl

@[simp] theorem State.tickNotices_svt (s : State) :
    (s.tickNotices).svt = s.svt := rfl

@[simp] theorem State.tickNotices_nl (s : State) :
    (s.tickNotices).nl = s.nl.map fun n => { n with holdOff := tickTimer n.holdOff } := rfl

@[simp] theorem State.tickNotices_lp (s : State) :
    (s.tickNotices).lp = s.lp := rfl

@[simp] theorem State.tickNotices_pins (s : State) :
    (s.tickNotices).pins = s.pins := rfl

@[simp] theorem State.tickNotices_resetPeriods (s : State) :
    (s.tickNotices).resetPeriods = s.resetPeriods := rfl

@[simp] theorem State.tickNotices_ticks (s : State) :
    (s.tickNotices).ticks = s.ticks := rfl

@[simp] theorem State.tickNotices_pending (s : State) :
    (s.tickNotices).pending = s.pending := rfl

end Sys2Proof.Machine
end

