-- ==== Sys2Proof/Laws/Bus.lean ====
section
/-! SUPPORT. The bus operations: contests on the wire, the sample counts, the notice list's search and removal,
the frame's end, the entry to HALT, a reported frame, and what a span of samples needs to be an event. -/

namespace Sys2Proof.Machine

/-! Contests on the wire -/

/-- A station that samples its own bits drives them all. -/
theorem contend_same (l : List Bool) : contend l l = (true, l) := by
  induction l with
  | nil => rfl
  | cons a l ih => cases a <;> simp [contend, ih]

/-- A station that drives 1 against 0 releases the line from the next bit. -/
theorem contend_lost (same own other : List Bool) :
    contend (same ++ true :: own) (same ++ false :: other) =
      (false, same ++ List.replicate (other.length + 1) true) := by
  induction same with
  | nil => simp [contend, List.replicate_succ]
  | cons a l ih => cases a <;> simp [contend, ih]

/-- A station that nowhere samples 0 where it drives 1 drives all its bits. -/
theorem contend_wins (own line : List Bool) (hlen : own.length = line.length)
    (h : ∀ p ∈ own.zip line, p.1 = true → p.2 = true) : contend own line = (true, own) := by
  induction own generalizing line with
  | nil => rfl
  | cons o os ih =>
    cases line with
    | nil => cases hlen
    | cons x xs =>
      have hx : (o && !x) = false := by
        have := h (o, x) (by simp)
        cases o <;> simp_all
      have := ih xs (by simpa using hlen) fun p hp => h p (by simp [hp])
      simp [contend, hx, this]

/-- A station that first drives 1 against 0 after bits it did not lose releases the line from the next bit. -/
theorem contend_loses (kept seen own other : List Bool) (hlen : kept.length = seen.length)
    (h : ∀ p ∈ kept.zip seen, p.1 = true → p.2 = true) :
    contend (kept ++ true :: own) (seen ++ false :: other) =
      (false, kept ++ List.replicate (other.length + 1) true) := by
  induction kept generalizing seen with
  | nil =>
    cases seen with
    | nil => simp [contend, List.replicate_succ]
    | cons x xs => cases hlen
  | cons o os ih =>
    cases seen with
    | nil => cases hlen
    | cons x xs =>
      have hx : (o && !x) = false := by
        have := h (o, x) (by simp)
        cases o <;> simp_all
      have := ih xs (by simpa using hlen) fun p hp => h p (by simp [hp])
      simp [contend, hx, this]

/-- The ERR bit that follows a sender's own bits is no part of the contest. -/
theorem contend_same_append (l extra : List Bool) : contend l (l ++ extra) = (true, l) := by
  induction l with
  | nil => cases extra <;> rfl
  | cons a l ih => cases a <;> simp only [contend, ih, List.cons_append, Bool.not_false, Bool.not_true, Bool.and_true,
      Bool.and_false, Bool.false_eq_true, if_false]

theorem wiredAnd_same (l : List Bool) : wiredAnd l l = l := by
  induction l with
  | nil => rfl
  | cons a l ih => simp [wiredAnd]

theorem wiredAnd_lost (same other : List Bool) :
    wiredAnd (same ++ List.replicate (other.length + 1) true) (same ++ false :: other) = same ++ false :: other := by
  induction same with
  | nil =>
    simp [wiredAnd, List.replicate_succ]
    induction other with
    | nil => rfl
    | cons a l ih => simp [List.replicate_succ, ih]
  | cons a l ih => simp only [wiredAnd] at *; simp [ih]

/-! Counts of recessive samples -/

theorem foldl_integrateSample (n c : Nat) (h : c + n ≤ 96) :
    (List.replicate n true).foldl integrateSample c = c + n := by
  induction n generalizing c with
  | zero => rfl
  | succ n ih =>
    have : ¬ (Config.integrationLimit ≤ c) := by simp [Config.integrationLimit]; omega
    rw [List.replicate_succ, List.foldl_cons]
    simp only [integrateSample, this, if_false, if_true]
    rw [ih _ (by omega)]; omega

theorem foldl_idleSample (n c : Nat) (hc : c ≤ 11) :
    (List.replicate n true).foldl idleSample c = min (c + n) 11 := by
  induction n generalizing c with
  | zero => simp [hc]
  | succ n ih =>
    rw [List.replicate_succ, List.foldl_cons]
    by_cases h : Config.idleLimit ≤ c
    · simp only [idleSample, h, if_true]; rw [ih _ hc]; simp [Config.idleLimit] at h; omega
    · simp only [idleSample, h, if_false, if_true]
      simp [Config.idleLimit] at h
      rw [ih _ (by omega)]; omega

theorem integrateSample_le (c : Nat) (b : Bool) (h : c ≤ 96) : integrateSample c b ≤ 96 := by
  unfold integrateSample Config.integrationLimit; split <;> (try split) <;> omega

theorem idleSample_le (c : Nat) (b : Bool) (h : c ≤ 11) : idleSample c b ≤ 11 := by
  unfold idleSample Config.idleLimit; split <;> (try split) <;> omega

theorem foldl_integrateSample_le (l : List Bool) (c : Nat) (h : c ≤ 96) : l.foldl integrateSample c ≤ 96 := by
  induction l generalizing c with
  | nil => exact h
  | cons b l ih => exact ih _ (integrateSample_le c b h)

theorem foldl_idleSample_le (l : List Bool) (c : Nat) (h : c ≤ 11) : l.foldl idleSample c ≤ 11 := by
  induction l generalizing c with
  | nil => exact h
  | cons b l ih => exact ih _ (idleSample_le c b h)

/-! Notices -/

theorem notice?_of_split {s : State} {n : Notice} {before after : List Notice} (hs : s.nl = before ++ n :: after)
    (h : ∀ m ∈ before ++ after, m.ref ≠ n.ref) : s.notice? n.ref = some n := by
  rw [State.notice?, hs]
  clear hs
  induction before with
  | nil => simp
  | cons a l ih =>
    rw [List.cons_append, List.find?_cons]
    simp only [beq_eq_false_iff_ne.mpr (h a (by simp))]
    exact ih (fun m hm => h m (by simp at *; tauto))

theorem removeNotice_of_split {s : State} {n : Notice} {before after : List Notice} (hs : s.nl = before ++ n :: after)
    (h : ∀ m ∈ before ++ after, m.ref ≠ n.ref) : s.removeNotice n.ref = { s with nl := before ++ after } := by
  have hb : before.filter (fun m => m.ref != n.ref) = before := by
    rw [List.filter_eq_self]
    intro m hm
    simpa using h m (by simp [hm])
  have ha : after.filter (fun m => m.ref != n.ref) = after := by
    rw [List.filter_eq_self]
    intro m hm
    simpa using h m (by simp [hm])
  simp only [State.removeNotice, hs, List.filter_append, List.filter_cons, bne_self_eq_false, hb, ha]
  rfl

theorem oldestNotice_of_split {s : State} {n : Notice} {before after : List Notice} (hs : s.nl = before ++ n :: after)
    (hb : ∀ m ∈ before, m.holdOff ≠ none) (hn : n.holdOff = none) : s.oldestNotice = some n := by
  rw [State.oldestNotice, hs]
  clear hs
  induction before with
  | nil => simp [hn]
  | cons a l ih =>
    rw [List.cons_append, List.find?_cons]
    cases ha : a.holdOff with
    | none => exact absurd ha (hb a (by simp))
    | some v => exact ih (fun m hm => hb m (by simp [hm]))

theorem oldestNotice_none {s : State} (h : ∀ m ∈ s.nl, m.holdOff ≠ none) : s.oldestNotice = none := by
  rw [State.oldestNotice, List.find?_eq_none]
  intro m hm
  have := h m hm
  cases hh : m.holdOff <;> simp_all

/-! The frame's end -/

theorem halted_eq (s : State) (driven : List Bool) : (s.drove driven).enterHalt = s.halted driven := by
  simp only [State.enterHalt, State.halted, State.settle, State.srqCondition, StationState.serves, Bool.false_and]
  simp [State.leaveFrame, State.setConflict, State.drove, Alerts.nonempty]
  rfl

theorem betweenFrames_eq (s : State) (driven : List Bool) : (s.drove driven).endFrame = s.betweenFrames driven := rfl

/-! Spans of samples -/

/-! A frame whose outcome its owner has had -/

theorem State.sentItem_markReported {s : State} {h : FrameInHand} (hr : s.pbe.role = .sender)
    (hi : s.ts.inHand = some h) : s.markReported.sentItem = some .reported := by
  simp [State.sentItem, hr, hi]

theorem State.offerInHand_markReported (s : State) (k : SourceIndex) : s.markReported.offerInHand k = false := by
  unfold State.offerInHand
  rw [State.markReported_ts]
  cases s.ts.inHand <;> rfl

/-- The frame on the wire stays the one in hand. -/
theorem State.spanEnd_markReported (s : State) (samples : List Bool) :
    s.markReported.spanEnd samples = s.spanEnd samples := by
  unfold State.spanEnd State.afterArbitration
  simp only [State.markReported_sc, State.markReported_pbe, State.markReported_ts]
  cases s.pbe.role <;> cases s.ts.inHand <;> rfl

theorem State.decidedFrame_markReported (s : State) : s.markReported.decidedFrame = s.decidedFrame := by
  unfold State.decidedFrame
  simp only [State.markReported_sc, State.markReported_cu, State.markReported_pbe, State.markReported_ts]
  cases s.pbe.role <;> cases s.ts.inHand <;> rfl

/-- An event of a frame after its arbitration field needs a station that takes part and follows a frame of which
exactly the SOF and the arbitration field are over. -/
theorem State.spanEnd_elsewhere {s : State} (samples : List Bool)
    (h : s.sc.station.takesPart = false ∨ s.pbe.current.length ≠ 11) : s.spanEnd samples = .elsewhere := by
  have : s.afterArbitration = false := by
    rcases h with h | h <;> simp [State.afterArbitration, h]
  simp [State.spanEnd, this]

theorem State.takesPart_of_spanEnd {s : State} {samples : List Bool} {e : SpanEnd} (h : s.spanEnd samples = e)
    (he : e ≠ .elsewhere) : s.sc.station.takesPart = true ∧ s.pbe.current.length = 11 := by
  by_contra hn
  apply he
  rw [← h]
  apply State.spanEnd_elsewhere
  cases hs : s.sc.station.takesPart <;> simp_all

/-- An offer's completion needs a station that takes part and has decided. -/
theorem State.takesPart_of_decidedFrame {s : State} {f : Frame} (h : s.decidedFrame = some f) :
    s.sc.station.takesPart = true ∧ s.cu.role ≠ .noRole := by
  unfold State.decidedFrame at h
  split at h
  · rename_i hc
    simpa using hc
  · cases h

theorem takesPart_iff (st : StationState) : st.takesPart = true ↔ st = .join ∨ st = .run ∨ st = .parked := by
  cases st <;> simp [StationState.takesPart]

theorem serves_iff (st : StationState) : st.serves = true ↔ st = .run ∨ st = .parked := by
  cases st <;> simp [StationState.serves]

end Sys2Proof.Machine
end

