-- ==== Sys2Proof/Laws/Records.lean ====
section
/-! SUPPORT. Reading a table after a write to it; the ready list after a join or a leave. -/

namespace Sys2Proof.Machine

/-- Reading a table after a write. -/
theorem get_set {α : Type} {n : Nat} (v : Vector α n) (k j : Fin n) (x : α) :
    (v.set k.val x k.isLt).get j = if j = k then x else v.get j := by
  show (v.set k.val x k.isLt)[j.val] = _
  rw [Vector.getElem_set]
  simp only [Fin.ext_iff, eq_comm (a := j.val)]
  rfl

theorem set_get_self {α : Type} {n : Nat} (v : Vector α n) (k : Fin n) :
    v.set k.val (v.get k) k.isLt = v := by
  ext i hi
  simp only [Vector.getElem_set]
  split
  · subst_vars; rfl
  · rfl

theorem set_set {α : Type} {n : Nat} (v : Vector α n) (k : Fin n) (x y : α) :
    (v.set k.val x k.isLt).set k.val y k.isLt = v.set k.val y k.isLt := by
  ext i hi
  simp only [Vector.getElem_set]
  split <;> simp_all

theorem get_ofFn {α : Type} {n : Nat} (f : Fin n → α) (k : Fin n) : (Vector.ofFn f).get k = f k := by
  show (Vector.ofFn f)[k.val] = f k
  simp

theorem get_map {α β : Type} {n : Nat} (f : α → β) (v : Vector α n) (k : Fin n) : (v.map f).get k = f (v.get k) := by
  simp [Vector.get]

theorem get_replicate {α : Type} {n : Nat} (x : α) (k : Fin n) : (Vector.replicate n x).get k = x := by
  simp [Vector.get]

theorem vector_ext {α : Type} {n : Nat} {v w : Vector α n} (h : ∀ k : Fin n, v.get k = w.get k) : v = w := by
  ext i hi
  exact h ⟨i, hi⟩

@[simp] theorem State.source_setSource (s : State) (k j : SourceIndex) (r : SourceRecord) :
    (s.setSource k r).source j = if j = k then r else s.source j := get_set _ _ _ _

@[simp] theorem State.line_setLineState (s : State) (n m : LineIndex) (l : LineState) :
    (s.setLineState n l).line m = if m = n then l else s.line m := get_set _ _ _ _

@[simp] theorem ServiceTable.entry_setEntry (t : ServiceTable) (h j : Handle) (e : Entry) :
    (t.setEntry h e).entry j = if j = h then e else t.entry j := get_set _ _ _ _

@[simp] theorem ServiceTable.setEntry_stack (t : ServiceTable) (h : Handle) (e : Entry) :
    (t.setEntry h e).stack = t.stack := rfl

@[simp] theorem ServiceTable.setEntry_threshold (t : ServiceTable) (h : Handle) (e : Entry) :
    (t.setEntry h e).threshold = t.threshold := rfl

@[simp] theorem ServiceTable.changeEntry_stack (t : ServiceTable) (h : Handle) (e : Entry) :
    (t.changeEntry h e).stack = t.stack := by
  unfold ServiceTable.changeEntry; split <;> rfl

@[simp] theorem ServiceTable.changeEntry_threshold (t : ServiceTable) (h : Handle) (e : Entry) :
    (t.changeEntry h e).threshold = t.threshold := by
  unfold ServiceTable.changeEntry; split <;> rfl

/-- Everything a change of entry h can do: h becomes `e`; another entry stays, or moves up a place where h leaves
PENDING before it (R109). -/
theorem ServiceTable.entry_changeEntry (t : ServiceTable) (h j : Handle) (e : Entry) :
    (t.changeEntry h e).entry j =
      if j = h then e
      else match t.entry h with
        | .occupied _ (.pending p) => Entry.moveUp p (t.entry j)
        | _ => t.entry j := by
  unfold ServiceTable.changeEntry
  cases heq : t.entry h with
  | free => exact ServiceTable.entry_setEntry _ _ _ _
  | occupied o ph =>
    cases ph with
    | pending p =>
      refine (ServiceTable.entry_setEntry _ _ _ _).trans ?_
      exact congrArg (fun x => if j = h then e else x) (get_map _ _ _)
    | active w => exact ServiceTable.entry_setEntry _ _ _ _
    | detached => exact ServiceTable.entry_setEntry _ _ _ _
    | closing c => exact ServiceTable.entry_setEntry _ _ _ _

theorem Entry.moveUp_offer (p : Nat) (e : Entry) : (Entry.moveUp p e).offer? = e.offer? := by
  rcases e with _ | ⟨o, ph⟩
  · rfl
  · cases ph <;> rfl

/-- A source joins the ready list behind those of its class and before the less urgent (R60). -/
theorem joinReady_eq (cls : SourceIndex → ServiceClass) (k : SourceIndex) (before after : List SourceIndex)
    (hb : ∀ j ∈ before, cls j ≤ cls k) (ha : ∀ j ∈ after, cls k < cls j) :
    joinReady cls k (before ++ after) = before ++ k :: after := by
  induction before with
  | nil =>
    cases after with
    | nil => rfl
    | cons j rest => simp [joinReady, ha j (by simp)]
  | cons j rest ih =>
    have h1 : ¬ cls k < cls j := BitVec.not_lt.mpr (hb j (by simp))
    simp only [List.cons_append, joinReady, h1, if_false]
    rw [ih (fun i hi => hb i (by simp [hi]))]

theorem mem_joinReady (cls : SourceIndex → ServiceClass) (k j : SourceIndex) (l : List SourceIndex) :
    j ∈ joinReady cls k l ↔ j = k ∨ j ∈ l := by
  induction l with
  | nil => simp [joinReady]
  | cons a l ih =>
    simp only [joinReady]
    split
    · simp
    · simp only [List.mem_cons, ih]; tauto

theorem nodup_joinReady (cls : SourceIndex → ServiceClass) (k : SourceIndex) (l : List SourceIndex) (hk : k ∉ l)
    (h : l.Nodup) : (joinReady cls k l).Nodup := by
  induction l with
  | nil => simp [joinReady]
  | cons a l ih =>
    simp only [joinReady]
    simp only [List.mem_cons, not_or] at hk
    obtain ⟨h1, h2⟩ := List.nodup_cons.mp h
    split
    · simp [hk, h1, h2]
    · refine List.nodup_cons.mpr ⟨?_, ih hk.2 h2⟩
      rw [mem_joinReady]
      rintro (rfl | h')
      · exact hk.1 rfl
      · exact h1 h'

theorem sorted_joinReady (cls : SourceIndex → ServiceClass) (k : SourceIndex) (l : List SourceIndex)
    (h : l.Pairwise fun i j => cls i ≤ cls j) : (joinReady cls k l).Pairwise fun i j => cls i ≤ cls j := by
  induction l with
  | nil => simp [joinReady]
  | cons a l ih =>
    simp only [joinReady]
    obtain ⟨h1, h2⟩ := List.pairwise_cons.mp h
    split
    · rename_i hlt
      refine List.pairwise_cons.mpr ⟨?_, h⟩
      intro j hj
      rcases List.mem_cons.mp hj with rfl | hj
      · exact BitVec.le_of_lt hlt
      · exact BitVec.le_trans (BitVec.le_of_lt hlt) (h1 j hj)
    · rename_i hnl
      refine List.pairwise_cons.mpr ⟨?_, ih h2⟩
      intro j hj
      rcases (mem_joinReady _ _ _ _).mp hj with rfl | hj
      · exact BitVec.not_lt.mp hnl
      · exact h1 j hj

end Sys2Proof.Machine
end

