-- ==== Sys2Proof/Laws/Port.lean ====
section
/-! SUPPORT. What a port frame can do: it is not taken, it is refused, or its command answers (R156). -/

namespace Sys2Proof.Machine

theorem byteBits_length (bs : List Byte) : (byteBits bs).length = 8 * bs.length := by
  induction bs with
  | nil => rfl
  | cons b bs ih =>
    have : (fieldBits b).length = 8 := rfl
    simp only [byteBits, List.flatMap_cons, List.length_append, List.length_cons] at *
    omega

theorem thenOnes_length (bits : List Bool) (n : Nat) : (thenOnes bits n).length = n := by
  simp [thenOnes]; omega

theorem shiftOut_length (r : Response) (n : Nat) : (shiftOut r n).length = n := thenOnes_length _ _

theorem portFrameBits_whole (code : Byte) (bs : List Byte) : portFrameBits code ⟨bs, []⟩ = byteBits (code :: bs) := by
  simp [portFrameBits]

theorem State.frameOfReset_eq_false {s : State} (h : s.portOpen) : s.frameOfReset = false := by
  simp [State.frameOfReset, h.1, h.2]

theorem State.frameOfReset_eq_true {s : State} (h : ¬ s.portOpen) : s.frameOfReset = true := by
  simp only [State.portOpen, not_and_or, not_not] at h
  rcases h with h | h <;> simp [State.frameOfReset, h]

/-- A frame of RESET is ignored. -/
theorem State.clockFrame_closed {s : State} (h : ¬ s.portOpen) (bits : List Bool) (before : Nat) :
    s.clockFrame bits before = s.ignored bits before := by
  simp only [State.clockFrame, State.frameOfReset_eq_true h, State.ignored, State.resetShiftOut]
  cases s.lp.frame <;> simp [thenOnes, shiftOut_length]

/-- Clocking a frame that is taken, then answering it, is all that `answered` says. -/
theorem State.clockFrame_open {s : State} (h : s.portOpen) (bits : List Bool) (before : Nat) :
    s.clockFrame bits before = { s with
      lp := { s.lp with
        frame := .noFrame, input := bits.take 256, overflow := decide (256 < bits.length),
        outPosition := bits.length },
      pins := { s.pins with lsdo := none, lsdoOut := shiftOut s.lp.buffer bits.length } } := by
  simp only [State.clockFrame, State.frameOfReset_eq_false h]
  rfl

theorem State.respond_clockFrame {s : State} (h : s.portOpen) (bits : List Bool) (r : ResultCode)
    (code : Option Byte) (data : List Byte) :
    (s.clockFrame bits).respond r code data = s.answered bits r code data := by
  rw [State.clockFrame_open h]
  rfl

theorem State.takeFrame_open {s : State} (h : s.portOpen) (code : Byte) (bs : List Byte)
    (hc : isCommandCode code = true) (hf : byteCountFits code (bs.length + 1) = true) (hl : bs.length ≤ 31)
    (ha : admittedIn code s.sc.station = true) : s.takeFrame code ⟨bs, []⟩ = .taken := by
  have hlen : (portFrameBits code ⟨bs, []⟩).length ≤ 256 := by
    rw [portFrameBits_whole, byteBits_length, List.length_cons]; omega
  have h256 : ¬ (Config.inputLimit < (portFrameBits code ⟨bs, []⟩).length) := not_lt.mpr hlen
  simp [State.takeFrame, State.frameOfReset_eq_false h, h256, hc, hf, ha]

/-- A taken frame runs its command. -/
theorem State.portCommand_taken {s : State} {code : Byte} {t : PortTail} (ht : s.takeFrame code t = .taken)
    (body : List Byte → State → Reply) :
    s.portCommand code t body =
      ((body t.bytes (s.clockFrame (portFrameBits code t))).state.respond
        (body t.bytes (s.clockFrame (portFrameBits code t))).result (some code)
        (body t.bytes (s.clockFrame (portFrameBits code t))).data) := by
  simp only [State.portCommand, ht]

/-- A refused frame leaves its refusal in the buffer. -/
theorem State.portCommand_refused {s : State} {code : Byte} {t : PortTail} {r : ResultCode}
    (ht : s.takeFrame code t = .refused r) (body : List Byte → State → Reply) :
    s.portCommand code t body = (s.clockFrame (portFrameBits code t)).respond r (some code) [] := by
  simp only [State.portCommand, ht]

/-- A frame that is not taken runs nothing. -/
theorem State.portCommand_notTaken {s : State} {code : Byte} {t : PortTail} (ht : s.takeFrame code t = .notTaken)
    (body : List Byte → State → Reply) :
    s.portCommand code t body = s.clockFrame (portFrameBits code t) := by
  simp only [State.portCommand, ht]

/-- Everything a port command can do: ignore the frame, refuse it, or run its command on the clocked state. -/
theorem State.portCommand_cases (s : State) (code : Byte) (t : PortTail) (body : List Byte → State → Reply) :
    s.portCommand code t body = s.clockFrame (portFrameBits code t) ∨
    (∃ r, s.portCommand code t body = (s.clockFrame (portFrameBits code t)).respond r (some code) []) ∨
    (s.portOpen ∧ admittedIn code s.sc.station = true ∧ s.portCommand code t body =
      ((body t.bytes (s.clockFrame (portFrameBits code t))).state.respond
        (body t.bytes (s.clockFrame (portFrameBits code t))).result (some code)
        (body t.bytes (s.clockFrame (portFrameBits code t))).data)) := by
  cases ht : s.takeFrame code t with
  | notTaken => exact .inl (State.portCommand_notTaken ht body)
  | refused r => exact .inr (.inl ⟨r, State.portCommand_refused ht body⟩)
  | taken =>
    refine .inr (.inr ⟨?_, ?_, State.portCommand_taken ht body⟩)
    · by_contra h
      simp [State.takeFrame, State.frameOfReset_eq_true h] at ht
    · by_contra h
      simp only [State.takeFrame, Bool.not_eq_true] at ht h
      simp only [h] at ht
      split at ht <;> try simp at ht
      split at ht <;> try simp at ht
      split at ht <;> try simp at ht
      split at ht <;> simp at ht

/-! All 26 commands at once -/

theorem isCommandCode_of_commandCode {c : Instr} {code : Byte} {t : PortTail} (h : commandCode c = some (code, t)) :
    isCommandCode code = true := by
  cases c <;> simp [commandCode] at h <;> (obtain ⟨rfl, rfl⟩ := h; rfl)

/-- Table 8-3 by code and by command. -/
theorem admittedIn_iff_takenIn {c : Instr} {code : Byte} {t : PortTail} (h : commandCode c = some (code, t))
    {st : StationState} (hs : st ≠ .reset) : admittedIn code st = true ↔ st ∈ c.takenIn := by
  cases c <;> simp [commandCode] at h <;>
    (obtain ⟨rfl, rfl⟩ := h
     cases st <;> simp [admittedIn, Instr.takenIn, StationState.takesPart, StationState.serves] at *)

/-- A command whose frame is not taken changes nothing but the port's frame items. -/
theorem exec_of_notTaken {c : Instr} {code : Byte} {t : PortTail} (h : commandCode c = some (code, t)) {s : State}
    (ht : s.takeFrame code t = .notTaken) : exec c s = .next (s.clockFrame (portFrameBits code t)) := by
  cases c <;> simp [commandCode] at h <;> obtain ⟨rfl, rfl⟩ := h
  case reset t =>
    have ht' : s.takeFrame 0x3F t = .notTaken := ht
    simp only [exec, execReset, ht']
    rfl
  all_goals exact congrArg Host.Outcome.next (State.portCommand_notTaken ht _)

/-- A command refused before its own checks leaves its refusal in the buffer and changes nothing else. -/
theorem exec_of_refused {c : Instr} {code : Byte} {t : PortTail} (h : commandCode c = some (code, t)) {s : State}
    {r : ResultCode} (ht : s.takeFrame code t = .refused r) :
    exec c s = .next ((s.clockFrame (portFrameBits code t)).respond r (some code) []) := by
  cases c <;> simp [commandCode] at h <;> obtain ⟨rfl, rfl⟩ := h
  case reset t =>
    have ht' : s.takeFrame 0x3F t = .refused r := ht
    simp only [exec, execReset, ht']
    rfl
  all_goals exact congrArg Host.Outcome.next (State.portCommand_refused ht _)

end Sys2Proof.Machine
end

