-- ==== Sys2Proof/Laws/Service.lean ====
section
/-! SUPPORT. The Service Table and the Claim Unit: what the searches over the entries find. -/

namespace Sys2Proof.Machine

/-! FREE entries and duplicates -/

theorem ServiceTable.holds_iff (t : ServiceTable) (x : StationId) (k : SourceIndex) :
    t.holds x k = true ↔ ∃ h o p, t.entry h = .occupied o p ∧ o.origin = x ∧ o.source = k := by
  simp only [ServiceTable.holds, allHandles, List.any_eq_true, List.mem_finRange, true_and]
  constructor
  · rintro ⟨h, hh⟩
    cases he : t.entry h with
    | free => rw [he] at hh; cases hh
    | occupied o p => rw [he] at hh; exact ⟨h, o, p, he, by simpa using hh⟩
  · rintro ⟨h, o, p, he, h1, h2⟩
    exact ⟨h, by rw [he]; simp [h1, h2]⟩

/-- The first handle of an ascending search is the lowest. -/
theorem find?_allHandles_eq_some {p : Handle → Bool} {h : Handle} :
    allHandles.find? p = some h ↔ p h = true ∧ ∀ j, j < h → p j = false := by
  constructor
  · intro hf
    refine ⟨List.find?_some hf, fun j hj => ?_⟩
    rw [List.find?_eq_some_iff_append] at hf
    obtain ⟨-, a, b, hab, ha⟩ := hf
    have hmem : j ∈ a ++ h :: b := hab ▸ List.mem_finRange j
    have hsorted : (a ++ h :: b).Pairwise (· < ·) := hab ▸ List.pairwise_lt_finRange 24
    rw [List.mem_append, List.mem_cons] at hmem
    rcases hmem with hm | rfl | hm
    · simpa using ha j hm
    · exact absurd hj (lt_irrefl _)
    · have := (List.pairwise_cons.mp (List.pairwise_append.mp hsorted).2.1).1 j hm
      exact absurd hj (not_lt.mpr this.le)
  · rintro ⟨hp, hmin⟩
    cases hf : allHandles.find? p with
    | none =>
      rw [List.find?_eq_none] at hf
      exact absurd hp (hf h (List.mem_finRange h))
    | some j =>
      have hj := List.find?_some hf
      congr 1
      rcases lt_trichotomy j h with hlt | rfl | hlt
      · exact absurd hj (by simp [hmin j hlt])
      · rfl
      · rw [List.find?_eq_some_iff_append] at hf
        obtain ⟨-, a, b, hab, ha⟩ := hf
        have hmem : h ∈ a ++ j :: b := hab ▸ List.mem_finRange h
        have hsorted : (a ++ j :: b).Pairwise (· < ·) := hab ▸ List.pairwise_lt_finRange 24
        rw [List.mem_append, List.mem_cons] at hmem
        rcases hmem with hm | rfl | hm
        · have := ha h hm
          simp [hp] at this
        · rfl
        · have := (List.pairwise_cons.mp (List.pairwise_append.mp hsorted).2.1).1 h hm
          exact absurd hlt (not_lt.mpr this.le)

theorem ServiceTable.lowestFree_eq_some {t : ServiceTable} {h : Handle} :
    t.lowestFree = some h ↔ t.entry h = .free ∧ ∀ j, t.entry j = .free → h ≤ j := by
  rw [ServiceTable.lowestFree, find?_allHandles_eq_some]
  constructor
  · rintro ⟨h1, h2⟩
    refine ⟨by simpa using h1, fun j hj => ?_⟩
    by_contra hlt
    have := h2 j (not_le.mp hlt)
    simp [hj] at this
  · rintro ⟨h1, h2⟩
    refine ⟨by simpa using h1, fun j hj => ?_⟩
    by_contra hc
    exact absurd (h2 j (by simpa using hc)) (not_le.mpr hj)

theorem ServiceTable.lowestFree_isSome (t : ServiceTable) : (∃ h, t.entry h = .free) ↔ t.lowestFree.isSome := by
  rw [ServiceTable.lowestFree, List.find?_isSome]
  constructor
  · rintro ⟨h, hh⟩; exact ⟨h, List.mem_finRange h, by simp [hh]⟩
  · rintro ⟨h, -, hh⟩; exact ⟨h, by simpa using hh⟩

/-- A station reserves a handle exactly where it may serve the offer, and then the lowest FREE one (R86, R90). -/
theorem State.eligibleHandle_eq_some {s : State} {f : Frame} {o : HeldOffer} {h : Handle} (ho : f.offer = some o) :
    s.eligibleHandle f = some h ↔
      s.mayServe f o ∧ s.svt.entry h = .free ∧ ∀ j, s.svt.entry j = .free → h ≤ j := by
  have hd : (s.svt.holds o.origin o.source = false) ↔
      ∀ h l q, s.svt.entry h = .occupied l q → ¬ (l.origin = o.origin ∧ l.source = o.source) := by
    rw [← Bool.not_eq_true, ServiceTable.holds_iff]
    push Not
    exact Iff.rfl
  simp only [State.eligibleHandle, ho, State.mayServe]
  rw [← hd]
  constructor
  · intro he
    split at he
    · rename_i hc
      simp only [Bool.and_eq_true, beq_iff_eq, decide_eq_true_eq, Bool.not_eq_true'] at hc
      have hl := ServiceTable.lowestFree_eq_some.mp he
      exact ⟨⟨hc.1.1.1, hc.1.1.2, ⟨h, hl.1⟩, hc.1.2, hc.2⟩, hl⟩
    · cases he
  · rintro ⟨⟨h1, h2, -, h4, h5⟩, hl⟩
    rw [if_pos (by simp [h1, h2, h4, h5])]
    exact ServiceTable.lowestFree_eq_some.mpr hl

/-! The best eligible entry -/

/-- The takeable offers are those of R112. -/
theorem ServiceTable.takeable_iff (t : ServiceTable) (o : HeldOffer)
    (hs : ∀ h ∈ t.stack, t.entry h ≠ .free) : t.takeable o = true ↔ t.mayTake o := by
  unfold ServiceTable.takeable ServiceTable.mayTake ServiceTable.nests ServiceTable.top
  rw [Bool.and_eq_true, Bool.and_eq_true, decide_eq_true_iff, decide_eq_true_iff, and_assoc]
  refine and_congr_right fun _ => and_congr_right fun _ => ?_
  cases hst : t.stack with
  | nil => simp
  | cons top rest =>
    have hne := hs top (by simp [hst])
    cases he : t.entry top with
    | free => exact absurd he hne
    | occupied l q => simp [he]

theorem ServiceTable.mem_candidates (t : ServiceTable) (h : Handle) (o : HeldOffer) (p : Nat) :
    (h, o, p) ∈ t.candidates ↔ t.entry h = .occupied o (.pending p) ∧ t.takeable o = true := by
  simp only [ServiceTable.candidates, allHandles, List.mem_filterMap, List.mem_finRange, true_and, Option.map_eq_some_iff,
    Prod.mk.injEq]
  constructor
  · rintro ⟨j, e, he, rfl, rfl⟩
    unfold ServiceTable.eligibleAt at he
    split at he
    · rename_i hh
      split at he
      · rename_i ht
        simp only [Option.some.injEq, Prod.mk.injEq] at he
        obtain ⟨rfl, rfl⟩ := he
        exact ⟨hh, ht⟩
      · cases he
    · cases he
  · rintro ⟨he, ht⟩
    exact ⟨h, (o, p), by simp [ServiceTable.eligibleAt, he, ht], rfl, rfl⟩

theorem earliest_eq_none (l : List (Handle × HeldOffer × Nat)) : earliest l = none ↔ l = [] := by
  cases l with
  | nil => simp [earliest]
  | cons c cs =>
    simp only [earliest, reduceCtorEq, iff_false]
    split
    · simp
    · split <;> simp

theorem earliest_mem {l : List (Handle × HeldOffer × Nat)} {c : Handle × HeldOffer × Nat} (h : earliest l = some c) :
    c ∈ l := by
  induction l generalizing c with
  | nil => cases h
  | cons d ds ih =>
    simp only [earliest] at h
    split at h
    · cases h; exact List.mem_cons_self ..
    · rename_i b hb
      split at h
      · cases h; exact List.mem_cons_of_mem d (ih hb)
      · cases h; exact List.mem_cons_self ..

/-- Nothing in the list comes before the earliest in the order of R110. -/
theorem earliest_le {l : List (Handle × HeldOffer × Nat)} {c : Handle × HeldOffer × Nat} (h : earliest l = some c)
    {d : Handle × HeldOffer × Nat} (hd : d ∈ l) : earlier d.2 c.2 = false := by
  have irrefl : ∀ a : HeldOffer × Nat, earlier a a = false := fun a => by simp [earlier]
  have asymm : ∀ a b : HeldOffer × Nat, earlier a b = true → earlier b a = false := by
    intro a b h1
    simp only [earlier, Bool.or_eq_true, Bool.and_eq_true, decide_eq_true_eq, beq_iff_eq, Bool.or_eq_false_iff,
      Bool.and_eq_false_iff, decide_eq_false_iff_not, beq_eq_false_iff_ne, BitVec.lt_def, ← BitVec.toNat_inj, ne_eq]
      at *
    omega
  induction l generalizing c d with
  | nil => cases hd
  | cons e es ih =>
    simp only [earliest] at h
    split at h
    · rename_i hn
      cases h
      rw [earliest_eq_none] at hn
      subst hn
      rw [List.mem_singleton] at hd
      subst hd
      exact irrefl _
    · rename_i b hb
      rw [List.mem_cons] at hd
      split at h
      · rename_i hlt
        cases h
        rcases hd with rfl | hd
        · exact asymm _ _ hlt
        · exact ih hb hd
      · rename_i hge
        cases h
        rcases hd with rfl | hd
        · exact irrefl _
        · have h1 := ih hb hd
          have h2 : earlier b.2 e.2 = false := by simpa using hge
          simp only [earlier, Bool.or_eq_false_iff, Bool.and_eq_false_iff, decide_eq_false_iff_not,
            beq_eq_false_iff_ne, BitVec.lt_def, ← BitVec.toNat_inj, ne_eq] at *
          omega

/-- The best eligible entry is the one PEEK finds (R113). -/
theorem ServiceTable.best_of_isBest {t : ServiceTable} {h : Handle} {o : HeldOffer} {p : Nat}
    (hs : ∀ h ∈ t.stack, t.entry h ≠ .free) (hb : t.isBest h o p) : t.best = some h := by
  obtain ⟨⟨he, ht⟩, hmin⟩ := hb
  have hm : (h, o, p) ∈ t.candidates := (t.mem_candidates h o p).mpr ⟨he, (t.takeable_iff o hs).mpr ht⟩
  rw [ServiceTable.best]
  cases hc : earliest t.candidates with
  | none =>
    rw [earliest_eq_none] at hc
    rw [hc] at hm
    cases hm
  | some c =>
    obtain ⟨j, o', p'⟩ := c
    have h1 := earliest_le hc hm
    have h2 := (t.mem_candidates j o' p').mp (earliest_mem hc)
    simp only [Option.map_some]
    by_contra hne
    have := hmin j o' p' ⟨h2.1, (t.takeable_iff o' hs).mp h2.2⟩ fun e => hne (by rw [e])
    simp only [earlier, Bool.or_eq_false_iff, Bool.and_eq_false_iff, decide_eq_false_iff_not, beq_eq_false_iff_ne,
      BitVec.lt_def, ← BitVec.toNat_inj, ne_eq] at h1 this
    omega

theorem ServiceTable.best_eq_none {t : ServiceTable} (hs : ∀ h ∈ t.stack, t.entry h ≠ .free)
    (hn : ¬ ∃ h o p, t.waits h o p) : t.best = none := by
  rw [ServiceTable.best, Option.map_eq_none_iff, earliest_eq_none, List.eq_nil_iff_forall_not_mem]
  rintro ⟨h, o, p⟩ hm
  have h2 := (t.mem_candidates h o p).mp hm
  exact hn ⟨h, o, p, h2.1, (t.takeable_iff o hs).mp h2.2⟩

theorem StackRight.notFree {s : State} (h : StackRight s) : ∀ j ∈ s.svt.stack, s.svt.entry j ≠ .free := by
  intro j hj e
  have := (h.members j).mp hj
  rw [e] at this
  cases this

/-! Counts -/

theorem ServiceTable.load_le (t : ServiceTable) : t.load ≤ 24 := by
  unfold ServiceTable.load
  exact (List.countP_le_length ..).trans (by simp [allHandles])

theorem ServiceTable.pendingCount_le (t : ServiceTable) : t.pendingCount ≤ 24 := by
  unfold ServiceTable.pendingCount
  exact (List.countP_le_length ..).trans (by simp [allHandles])

end Sys2Proof.Machine
end

