-- ==== Sys2Proof/Laws/Sources.lean ====
section
/-! SUPPORT. The Source Table's operations: each touches the Source Table and the Notice List alone, and the records
of the other sources stand. -/

namespace Sys2Proof.Machine

/-- Only the Source Table and the Notice List may differ. -/
def State.sourcesMoved (s t : State) : Prop := t = { s with st := t.st, nl := t.nl }

/-- Only the Source Table and the Notice List may differ, and of the records only that of source k. -/
def State.sourceMoved (k : SourceIndex) (s t : State) : Prop :=
  s.sourcesMoved t ∧ ∀ j, j ≠ k → t.source j = s.source j

theorem State.sourcesMoved_refl (s : State) : s.sourcesMoved s := rfl

theorem State.sourcesMoved_trans {s t u : State} (h : s.sourcesMoved t) (h' : t.sourcesMoved u) :
    s.sourcesMoved u := by
  unfold State.sourcesMoved at *
  rw [h', h]

theorem State.sourceMoved_refl (k : SourceIndex) (s : State) : s.sourceMoved k s := ⟨rfl, fun _ _ => rfl⟩

theorem State.sourceMoved_trans {k : SourceIndex} {s t u : State} (h : s.sourceMoved k t) (h' : t.sourceMoved k u) :
    s.sourceMoved k u :=
  ⟨State.sourcesMoved_trans h.1 h'.1, fun j hj => (h'.2 j hj).trans (h.2 j hj)⟩

/-! The fields that stand -/

theorem State.sourcesMoved.sc {s t : State} (h : s.sourcesMoved t) : t.sc = s.sc := by rw [h]
theorem State.sourcesMoved.cs {s t : State} (h : s.sourcesMoved t) : t.cs = s.cs := by rw [h]
theorem State.sourcesMoved.liu {s t : State} (h : s.sourcesMoved t) : t.liu = s.liu := by rw [h]
theorem State.sourcesMoved.ts {s t : State} (h : s.sourcesMoved t) : t.ts = s.ts := by rw [h]
theorem State.sourcesMoved.pbe {s t : State} (h : s.sourcesMoved t) : t.pbe = s.pbe := by rw [h]
theorem State.sourcesMoved.cu {s t : State} (h : s.sourcesMoved t) : t.cu = s.cu := by rw [h]
theorem State.sourcesMoved.svt {s t : State} (h : s.sourcesMoved t) : t.svt = s.svt := by rw [h]
theorem State.sourcesMoved.lp {s t : State} (h : s.sourcesMoved t) : t.lp = s.lp := by rw [h]
theorem State.sourcesMoved.pins {s t : State} (h : s.sourcesMoved t) : t.pins = s.pins := by rw [h]
theorem State.sourcesMoved.resetPeriods {s t : State} (h : s.sourcesMoved t) : t.resetPeriods = s.resetPeriods := by
  rw [h]
theorem State.sourcesMoved.ticks {s t : State} (h : s.sourcesMoved t) : t.ticks = s.ticks := by rw [h]
theorem State.sourcesMoved.pending {s t : State} (h : s.sourcesMoved t) : t.pending = s.pending := by rw [h]

/-! The elementary updates -/

theorem State.setSource_moved (s : State) (k : SourceIndex) (r : SourceRecord) : s.sourceMoved k (s.setSource k r) :=
  ⟨rfl, fun j hj => by rw [State.source_setSource, if_neg hj]⟩

theorem State.joinReadyList_moved (s : State) (k : SourceIndex) : s.sourceMoved k (s.joinReadyList k) :=
  ⟨rfl, fun _ _ => rfl⟩

theorem State.leaveReadyList_moved (s : State) (k : SourceIndex) : s.sourceMoved k (s.leaveReadyList k) :=
  ⟨rfl, fun _ _ => rfl⟩

theorem State.queueNotice_moved (s : State) (k : SourceIndex) (n : Notice) : s.sourceMoved k (s.queueNotice n) :=
  ⟨rfl, fun _ _ => rfl⟩

theorem State.removeNotice_moved (s : State) (k : SourceIndex) (r : NoticeRef) :
    s.sourceMoved k (s.removeNotice r) := ⟨rfl, fun _ _ => rfl⟩

/-! The source's events -/

theorem State.enterReady_moved (s : State) (k : SourceIndex) : s.sourceMoved k (s.enterReady k) :=
  State.sourceMoved_trans (State.setSource_moved s k _) (State.joinReadyList_moved _ k)

theorem State.enterIdle_moved (s : State) (k : SourceIndex) : s.sourceMoved k (s.enterIdle k) := by
  have h := State.sourceMoved_trans (State.leaveReadyList_moved s k) (State.setSource_moved (s.leaveReadyList k) k
    { state := .idle, generation := (s.source k).generation, retry := 0, again := false, cancelPending := false,
      remaining := none })
  simp only [State.enterIdle]
  split
  · exact State.sourceMoved_trans h (State.enterReady_moved _ k)
  · exact h

theorem State.setAgain_moved (s : State) (k : SourceIndex) : s.sourceMoved k (s.setAgain k) :=
  State.setSource_moved s k _

theorem State.setCancelPending_moved (s : State) (k : SourceIndex) : s.sourceMoved k (s.setCancelPending k) :=
  State.setSource_moved s k _

theorem State.requestEvent_moved (s : State) (k : SourceIndex) : s.sourceMoved k (s.requestEvent k) := by
  unfold State.requestEvent
  split
  · exact State.enterReady_moved s k
  · split
    · exact State.setAgain_moved s k
    · exact State.sourceMoved_refl k s
  all_goals first | exact State.setAgain_moved s k | exact State.sourceMoved_refl k s

theorem State.enterWithdrawing_moved (s : State) (k : SourceIndex) (x : StationId) :
    s.sourceMoved k (s.enterWithdrawing k x) :=
  State.sourceMoved_trans (State.setSource_moved s k _) (State.queueNotice_moved _ k _)

theorem State.withdrawEvent_moved (s : State) (k : SourceIndex) : s.sourceMoved k (s.withdrawEvent k) := by
  unfold State.withdrawEvent
  split
  · exact State.sourceMoved_refl k s
  · split
    · exact State.setCancelPending_moved s k
    · exact State.enterIdle_moved s k
  · exact State.setCancelPending_moved s k
  · exact State.enterIdle_moved s k
  · exact State.enterWithdrawing_moved s k _
  · exact State.sourceMoved_refl k s
  · exact State.sourceMoved_refl k s

theorem State.enterBackoff_moved (s : State) (k : SourceIndex) (r : Byte) : s.sourceMoved k (s.enterBackoff k r) :=
  State.setSource_moved s k _

theorem State.enterFailed_moved (s : State) (k : SourceIndex) : s.sourceMoved k (s.enterFailed k) :=
  State.setSource_moved s k _

theorem State.roundUnsuccessful_moved (s : State) (k : SourceIndex) : s.sourceMoved k (s.roundUnsuccessful k) := by
  unfold State.roundUnsuccessful
  split
  · exact State.enterFailed_moved s k
  · exact State.enterBackoff_moved s k _

theorem State.offerArbitrated_moved (s : State) (k : SourceIndex) (won : Bool) :
    s.sourceMoved k (s.offerArbitrated k won) := by
  unfold State.offerArbitrated
  split
  · split
    · exact State.sourceMoved_trans (State.leaveReadyList_moved s k) (State.setSource_moved _ k _)
    · split
      · exact State.enterIdle_moved s k
      · exact State.sourceMoved_refl k s
  · exact State.sourceMoved_refl k s

theorem State.offerPlaced_moved (s : State) (k : SourceIndex) (x : StationId) :
    s.sourceMoved k (s.offerPlaced k x) := by
  unfold State.offerPlaced
  split
  · split
    · exact State.sourceMoved_trans (State.setSource_moved s k _) (State.enterWithdrawing_moved _ k x)
    · exact State.setSource_moved s k _
  · exact State.sourceMoved_refl k s

theorem State.offerNotPlaced_moved (s : State) (k : SourceIndex) : s.sourceMoved k (s.offerNotPlaced k) := by
  unfold State.offerNotPlaced
  split
  · split
    · exact State.enterIdle_moved s k
    · exact State.roundUnsuccessful_moved s k
  · exact State.sourceMoved_refl k s

theorem State.spreadRoundEnds_moved (s : State) (k : SourceIndex) (m : StationMask) :
    s.sourceMoved k (s.spreadRoundEnds k m) := by
  have h := State.setSource_moved s k { s.source k with remaining := (s.source k).remaining.map fun r => r &&& ~~~m }
  unfold State.spreadRoundEnds
  split
  · dsimp only at *
    split
    · exact State.sourceMoved_trans h (State.enterIdle_moved _ k)
    · split
      · exact State.sourceMoved_trans h (State.enterIdle_moved _ k)
      · split
        · exact State.sourceMoved_trans h (State.enterBackoff_moved _ k _)
        · exact State.sourceMoved_trans h (State.roundUnsuccessful_moved _ k)
  · exact State.sourceMoved_refl k s

theorem State.doneDelivered_moved (s : State) (x : StationId) (k : SourceIndex) (g : Generation) :
    s.sourceMoved k (s.doneDelivered x k g) := by
  unfold State.doneDelivered
  split
  · exact State.sourceMoved_trans (State.removeNotice_moved s k _) (State.enterIdle_moved _ k)
  · exact State.sourceMoved_refl k s

theorem State.helloReleasesSource_moved (x : StationId) (s : State) (k : SourceIndex) :
    s.sourceMoved k (State.helloReleasesSource x s k) := by
  unfold State.helloReleasesSource
  split
  · split
    · have h := State.setSource_moved s k { s.source k with again := false }
      dsimp only
      split
      · exact State.sourceMoved_trans h (State.enterIdle_moved _ k)
      · exact State.sourceMoved_trans h (State.enterReady_moved _ k)
    · exact State.sourceMoved_refl k s
  · split
    · exact State.sourceMoved_trans (State.removeNotice_moved s k _) (State.enterIdle_moved _ k)
    · exact State.sourceMoved_refl k s
  · exact State.sourceMoved_refl k s

theorem State.backoffExpires_moved (s : State) (k : SourceIndex) : s.sourceMoved k (s.backoffExpires k) :=
  State.sourceMoved_trans (State.setSource_moved s k _) (State.joinReadyList_moved _ k)

theorem State.tickSource_moved (s : State) (k : SourceIndex) : s.sourceMoved k (s.tickSource k) := by
  unfold State.tickSource
  split
  · split
    · exact State.backoffExpires_moved s k
    · exact State.setSource_moved s k _
  · exact State.sourceMoved_refl k s

theorem State.takeLineEvent_moved (s : State) (k : SourceIndex) (e : Option LineEvent) :
    s.sourceMoved k (s.takeLineEvent k e) := by
  unfold State.takeLineEvent
  split
  · exact State.requestEvent_moved s k
  · exact State.withdrawEvent_moved s k
  · exact State.sourceMoved_refl k s

theorem State.tickSourceWith_moved (step : LineIndex → LineStep) (s : State) (k : SourceIndex) :
    s.sourceMoved k (State.tickSourceWith step s k) := by
  unfold State.tickSourceWith
  split
  · split
    · exact State.sourceMoved_trans (State.requestEvent_moved s k) (State.tickSource_moved _ k)
    · exact State.sourceMoved_trans (State.tickSource_moved s k) (State.requestEvent_moved _ k)
  · exact State.sourceMoved_trans (State.takeLineEvent_moved s k _) (State.tickSource_moved _ k)

/-! CANCEL -/

theorem State.cancelByState_moved (s : State) (k : SourceIndex) : s.sourceMoved k (s.cancelByState k) := by
  unfold State.cancelByState
  split
  · exact State.sourceMoved_refl k s
  · split
    · exact State.setCancelPending_moved s k
    · exact State.enterIdle_moved s k
  · exact State.setCancelPending_moved s k
  · exact State.enterIdle_moved s k
  · exact State.enterWithdrawing_moved s k _
  · exact State.sourceMoved_trans (State.setSource_moved s k _) (State.queueNotice_moved _ k _)
  · exact State.sourceMoved_refl k s
  · exact State.sourceMoved_refl k s
  · exact State.enterIdle_moved s k

/-! Runs over the sources -/

theorem foldl_sourcesMoved (f : State → SourceIndex → State) (h : ∀ (s : State) k, s.sourceMoved k (f s k))
    (ks : List SourceIndex) (s : State) : s.sourcesMoved (ks.foldl f s) := by
  induction ks generalizing s with
  | nil => rfl
  | cons k ks ih => exact State.sourcesMoved_trans (h s k).1 (ih (f s k))

/-- A source that a run over others does not name keeps its record. -/
theorem foldl_source_of_notMem (f : State → SourceIndex → State) (h : ∀ (s : State) k, s.sourceMoved k (f s k))
    (ks : List SourceIndex) (s : State) (j : SourceIndex) (hj : j ∉ ks) : (ks.foldl f s).source j = s.source j := by
  induction ks generalizing s with
  | nil => rfl
  | cons k ks ih =>
    rw [List.foldl_cons, ih (f s k) (fun hm => hj (List.mem_cons_of_mem k hm))]
    exact (h s k).2 j fun hk => hj (hk ▸ List.mem_cons_self ..)

/-- A run over all sources makes of source k what its own event makes of it, in some state that differs from the
first in the Source Table and the Notice List alone and holds the same record of k. -/
theorem foldl_source (f : State → SourceIndex → State) (h : ∀ (s : State) k, s.sourceMoved k (f s k)) (s : State)
    (k : SourceIndex) : ∃ u, s.sourcesMoved u ∧ u.source k = s.source k ∧
      ((allSources.foldl f s).source k = (f u k).source k) := by
  obtain ⟨a, b, hab⟩ := List.append_of_mem (List.mem_finRange k)
  have hnd : (a ++ k :: b).Nodup := hab ▸ List.nodup_finRange 24
  rw [List.nodup_append] at hnd
  have hka : k ∉ a := fun hm => hnd.2.2 k hm k (List.mem_cons_self ..) rfl
  have hkb : k ∉ b := (List.nodup_cons.mp hnd.2.1).1
  refine ⟨a.foldl f s, foldl_sourcesMoved f h a s, foldl_source_of_notMem f h a s k hka, ?_⟩
  rw [allSources, hab, List.foldl_append, List.foldl_cons]
  exact foldl_source_of_notMem f h b _ k hkb

/-! Numbers -/

/-- The retry count one higher, held at 255 (R68). -/
theorem nextRetry_eq (r : Byte) : nextRetry r = BitVec.ofNat 8 (min (r.toNat + 1) 255) := by
  revert r; decide +kernel

theorem State.roundFails_iff (s : State) (k : SourceIndex) :
    s.roundFails k = true ↔ s.cs.declineLimit ≠ 0 ∧ (s.source k).retry.toNat + 1 = s.cs.declineLimit.toNat := by
  simp [State.roundFails]

theorem setSource_setSource (s : State) (k : SourceIndex) (a b : SourceRecord) :
    (s.setSource k a).setSource k b = s.setSource k b := by
  simp [State.setSource]

theorem putSource_eq (s : State) (k : SourceIndex) (r : SourceRecord) : s.putSource k r s.st.ready = s.setSource k r :=
  rfl

end Sys2Proof.Machine
end

