-- ==== Sys2Proof/Tests/Slice0.lean ====
section
/-! SUPPORT. The model's own tests: the WellFormed smoke, one or two steps of every command with the values the
spec's text gives, and for every statement with hypotheses a state and operands that meet them. -/

namespace Sys2Proof.Tests

open Sys2Proof.Machine

set_option Elab.async false

/-! Small states -/

/-- The command answers a next state of which `p` holds. -/
def leaves (c : Instr) (s : State) (p : State → Bool) : Bool :=
  match exec c s with
  | .next t => p t
  | .fault _ => false
  | .refused _ => false

/-- An enabled route of class 4, vector 3Ch, to station 9 or to stations 1, 4 and 9. -/
def routed (mode : RouteMode) : Route :=
  { enabled := true, mode := mode, cls := 4, vector := 0x3C, targetId := 9, targetMask := 0x0212, reentrant := false }

/-- Station 5 with VDD up, in a station state, synchronised on an idle bus, a port frame in progress; line 0 is
LEVEL, line 1 EDGE with debounce; routes 0 and 16 are DIRECT, 1 POOL, 2 SPREAD. -/
def at5 (st : StationState) : State :=
  { State.reset with
    sc := { station := st, id := 5, presence := 0x0021, helloPending := st == .join, helloRetry := none },
    cs := { ConfigStore.reset with
      lines := (ConfigStore.reset.lines.set 0 { activeLow := false, level := true, debounce := false }).set 1
        { activeLow := false, level := false, debounce := true },
      routes := (((ConfigStore.reset.routes.set 0 (routed .direct)).set 1 (routed .pool)).set 2
        (routed .spread)).set 16 (routed .direct) },
    pbe := { BusEngine.reset with synchronised := true, integrationCount := 96, idleCount := 11 },
    lp := { LocalPort.reset with
      frame := .inProgress, alerts := { fail := false, drop := false, conflict := st == .halt } },
    pins := { State.reset.pins with vddLow := false, alertLow := st == .halt, lsdo := some false } }

/-- Station 5 in RUN. -/
def inRun : State := at5 .run

/-- A source record in a state, at generation 1. -/
def inState (st : SourceState) : SourceRecord :=
  { state := st, generation := 1, retry := 0, again := false, cancelPending := false, remaining := none }

/-- Station 5 in RUN with the record of one source. -/
def withSource (k : SourceIndex) (r : SourceRecord) : State :=
  inRun.putSource k r (if r.state = .ready then [k] else [])

/-- Line n with q active and armed, past its entry sample. -/
def withLine (n : LineIndex) (s : State) : State :=
  s.setLineState n { lastSample := true, q := true, count := 0, armed := true, entryDue := false }

/-- The station follows a frame whose arbitration field has just ended. -/
def following (f : Frame) (s : State) : State :=
  { s with pbe := { s.pbe with role := .receiver, current := f.sentBits.take 11 } }

/-- The station sends a frame whose arbitration field has just ended. -/
def sending (i : Item) (f : Frame) (s : State) : State :=
  { s with
    ts := { inHand := some { item := i, frame := f } },
    pbe := { s.pbe with role := .sender, current := f.sentBits.take 11, driving := true } }

/-- The samples of a frame from bit 11 to ERR. -/
def span (f : Frame) (err : Bool) : List Bool := f.sentBits.drop 11 ++ [err]

/-- The station follows an offer on which it has decided. -/
def decided (role : ResponseRole) (f : Frame) (s : State) : State :=
  { s with
    pbe := { s.pbe with role := .receiver, current := f.sentBits ++ [true] },
    cu := { s.cu with reservation := if role = .declined then none else some 0, role := role } }

/-- The station sends an offer on which it has decided. -/
def sent (k : SourceIndex) (role : ResponseRole) (f : Frame) (s : State) : State :=
  { decided role f s with
    ts := { inHand := some { item := .offer k, frame := f } },
    pbe := { s.pbe with role := .sender, current := f.sentBits ++ [true] } }

/-- An offer of station x, class 4, held as an entry. -/
def held (x : StationId) (k : SourceIndex) : HeldOffer :=
  { origin := x, source := k, generation := 1, cls := 4, vector := 0x3C, reentrant := false, tracked := true }

/-- Station 5 in RUN with entry 0. -/
def withEntry (p : Phase) : State :=
  { inRun with
    svt := { inRun.svt.setEntry 0 (.occupied (held 2 3) p) with
      stack := if (Entry.occupied (held 2 3) p).onStack then [0] else [] } }

/-- The DIRECT offer of station 9, class 4, to station 5, of source 3. -/
def directTo5 : Frame := .direct 9 4 5 3 1 0x3C false

/-- The POOL offer of station 9, class 4, to stations 1, 4 and 5, of source 18, pointer 15. -/
def poolTo5 : Frame := .pool 9 4 0x0032 15 18 1 0x3C false

/-- The SPREAD offer of station 9, class 4, to stations 1, 4 and 5, of source 18. -/
def spreadTo5 : Frame := .spread 9 4 0x0032 18 1 0x3C

/-! Ill-formed operands are refused by WellFormed -/

theorem test_wellFormed_port_tail : (Instr.readId ⟨[], List.replicate 8 true⟩).wellFormed = false ∧
    (Instr.readId ⟨[], List.replicate 7 true⟩).wellFormed = true := by decide

theorem test_wellFormed_span_to_err : (Instr.helloCompletion (span (.hello 6) true).tail 0).wellFormed = false ∧
    (Instr.helloCompletion (span (.hello 6) true) 0).wellFormed = true ∧
    (Instr.decision (span (.hello 6) true)).wellFormed = false ∧
    (Instr.decision (span directTo5 true)).wellFormed = true ∧
    (Instr.doneCompletion (span directTo5 true) true).wellFormed = false ∧
    (Instr.withdrawCompletion (span directTo5 true) true).wellFormed = false ∧
    (Instr.frameDiscardedByErr []).wellFormed = false ∧
    (Instr.invalidKindFrameEnd (span (.hello 6) true)).wellFormed = false := by decide +kernel

theorem test_wellFormed_span_to_commit : (Instr.frameAbandoned (span (.hello 6) true)).wellFormed = false ∧
    (Instr.frameAbandoned (span (.hello 6) true).dropLast).wellFormed = true ∧
    (Instr.frameAbandoned [true, true]).wellFormed = false := by decide +kernel

theorem test_wellFormed_span_within_frame : (Instr.bitCompareMismatch []).wellFormed = false ∧
    (Instr.bitCompareMismatch (List.replicate 51 true)).wellFormed = false ∧
    (Instr.bitCompareMismatch (List.replicate 50 true)).wellFormed = true := by decide +kernel

theorem test_wellFormed_unknown_frame : (Instr.unknownCommand (byteBits [0x01])).wellFormed = false ∧
    (Instr.unknownCommand []).wellFormed = false ∧ (Instr.unknownCommand [true]).wellFormed = true ∧
    (Instr.unknownCommand (byteBits [0x0A])).wellFormed = true := by decide +kernel

/-! Bits: the worked bytes and frames of chapter 10 -/

/-- 10.2.1: the HELLO of station 6 from bit 0 to COMMIT; its check field is 90h. -/
theorem test_hello_of_station_6 : (Frame.hello 6).sentBits =
    [false, false, false, false, false, false, false, false, true, true, false, false, false, false,
      true, false, false, true, false, false, false, false, false] ∧
    crc (Frame.hello 6).checkedBits = 0x90 := by decide +kernel

/-- 10.4: the SET-ROUTE bytes of step 5 of Table 9-2 spell that command, and give that entry. -/
theorem test_set_route_bytes :
    classifyFrame (byteBits [0x12, 0x12, 0x01, 0x05, 0x3C, 0x00, 0x02, 0x12, 0x01]) =
      .setRoute ⟨[0x12, 0x01, 0x05, 0x3C, 0x00, 0x02, 0x12, 0x01], []⟩ ∧
    leaves (.setRoute ⟨[0x12, 0x01, 0x05, 0x3C, 0x00, 0x02, 0x12, 0x01], []⟩) (at5 .config) (fun t =>
      t.route 18 = { enabled := true, mode := .pool, cls := 5, vector := 0x3C, targetId := 0, targetMask := 0x0212,
                     reentrant := false }) = true := by decide +kernel

/-- The table gives no row bits. -/
theorem test_no_table_word : decodeTableWord 8 0x01 = none := rfl

/-! The board -/

theorem test_powerUp : leaves .powerUp inRun (fun t => t.sc.station = .reset ∧ t.pins.vddLow ∧ t.cs.declineLimit = 8 ∧
    t.lp.frame = .cutByReset inRun.lp.buffer ∧ t.lp.buffer = Response.afterReset) = true := by decide +kernel

theorem test_resetPinLow : leaves .resetPinLow inRun (fun t => t.sc.station = .reset ∧ t.pins.resetLow ∧
    t.pins.lsdo = some true) = true := by decide +kernel

/-- A frame that shifts out 5Ah, cut after three bits, ends after five. -/
theorem test_cut_frame_ends :
    leaves (.frameNotTaken { bits := List.replicate 5 false, beforeReset := 3 }) (inRun.enterReset.endReset 6)
      (fun t => t.pins.lsdoOut = [false, true, false, true, true] ∧ t.pins.lsdo = none ∧ t.lp.frame = .noFrame ∧
        t.lp.buffer = Response.afterReset) = true := by decide +kernel

theorem test_vddBelowOperatingLimit :
    leaves .vddBelowOperatingLimit inRun (fun t => t.sc.station = .reset ∧ t.pins.vddLow) = true := by decide +kernel

theorem test_endOfFullReset :
    leaves (.endOfFullReset 6) State.reset (fun t => t.sc.station = .config ∧ t.sc.id = 6) = true := by decide +kernel

/-! Ticks -/

/-- Table 3-3, tick 1: the entry sample of an active EDGE line disarms it and gives no request. -/
theorem test_stationTick_entry_sample : leaves (.stationTick 0x0008) inRun (fun t =>
    t.line 3 = { lastSample := true, q := true, count := 0, armed := false, entryDue := false } ∧
      t.st.ready = []) = true := by decide +kernel

/-- A LEVEL line takes its request at the first active tick (R50). -/
theorem test_stationTick_level : leaves (.stationTick 0x0001) inRun (fun t =>
    (t.source 0).state = .ready ∧ (t.source 0).generation = 1 ∧ t.st.ready = [0]) = true := by decide +kernel

theorem test_debounceQualified : leaves (.debounceQualified 1)
    (inRun.setLineState 1 { lastSample := true, q := false, count := 3, armed := true, entryDue := false })
    (fun t => (t.line 1).q ∧ (t.line 1).count = 4 ∧ (t.source 1).state = .ready) = true := by decide +kernel

theorem test_backoffExpiry : leaves (.backoffExpiry 0) (withSource 0 (inState (.backoff 1)))
    (fun t => (t.source 0).state = .ready ∧ (t.source 0).generation = 1 ∧ t.st.ready = [0]) = true := by
  decide +kernel

/-- A notice of station 5: the DONE of entry 0. -/
def doneOf0 (attempts : Nat) (holdOff : Option Nat) : Notice :=
  { body := .done 0 .completed, addressee := 2, source := 3, generation := 1, cls := 4, attempts := attempts,
    holdOff := holdOff }

/-- A notice of station 5: the WITHDRAW of source 0, placed at station 9. -/
def withdrawOf0 (attempts : Nat) (holdOff : Option Nat) : Notice :=
  { body := .withdraw 0, addressee := 9, source := 0, generation := 1, cls := 4, attempts := attempts,
    holdOff := holdOff }

/-- Entry 0 is CLOSING with its DONE on the list. -/
def closing (attempts : Nat) (holdOff : Option Nat) : State :=
  { withEntry (.closing .completed) with nl := [doneOf0 attempts holdOff] }

/-- Source 0 is WITHDRAWING with its WITHDRAW on the list. -/
def withdrawing (attempts : Nat) (holdOff : Option Nat) : State :=
  { withSource 0 (inState (.withdrawing 9 .no)) with nl := [withdrawOf0 attempts holdOff] }

theorem test_holdOffExpiry : leaves (.holdOffExpiry (.done 0)) (closing 1 (some 1))
    (fun t => t.nl = [doneOf0 1 none]) = true := by decide +kernel

theorem test_helloRetryExpiry :
    leaves .helloRetryExpiry { at5 .join with
      sc := { (at5 .join).sc with helloPending := false, helloRetry := some 1 } }
    (fun t => t.sc.helloPending ∧ t.sc.helloRetry = none) = true := by decide +kernel

/-! The bus -/

/-- A station before integration. -/
def unsynchronised (n : Nat) : State :=
  { at5 .join with pbe := { BusEngine.reset with integrationCount := n } }

theorem test_integrationComplete : leaves (.integrationComplete (List.replicate 96 true)) (unsynchronised 0)
    (fun t => t.pbe.synchronised ∧ t.pbe.idleCount = 11) = true := by decide +kernel

theorem test_integration_restarts :
    leaves (.integrationComplete (List.replicate 95 true ++ [false, true])) (unsynchronised 0)
    (fun t => t.pbe.synchronised = false ∧ t.pbe.integrationCount = 1) = true := by decide +kernel

/-- Between frames with this idle count. -/
def idleAt (n : Nat) : State := { inRun with pbe := { inRun.pbe with idleCount := n } }

theorem test_busIdle : leaves (.busIdle [true, false, true]) (idleAt 4) (fun t => t.pbe.idleCount = 1) = true := by
  decide +kernel

theorem test_startOpportunity_hello : leaves (.startOpportunity false) (at5 .join) (fun t =>
    t.ts.inHand = some { item := .hello, frame := .hello 5 } ∧ t.pbe.role = .contender ∧ t.pins.pbdOut = [false]) =
    true := by decide +kernel

theorem test_startOpportunity_notice_first : leaves (.startOpportunity false)
    { closing 0 none with st := { inRun.st with ready := [16] } } (fun t =>
      t.ts.inHand = some { item := .notice (.done 0), frame := .done 5 4 2 3 1 .completed }) = true := by
  decide +kernel

/-- The offer of source 16 has driven its SOF. -/
def contending (cancelPending : Bool) : State :=
  { withSource 16 { inState .ready with cancelPending := cancelPending } with
    ts := { inHand := some { item := .offer 16, frame := .direct 5 4 9 16 1 0x3C false } },
    pbe := { inRun.pbe with role := .contender, current := [false], driving := true } }

/-- 10 (rank 2), 0100 (class 4), 0101 (station 5). -/
theorem test_arbitrationReport_won : leaves (.arbitrationReport 0b1001000101) (contending false) (fun t =>
    t.pbe.role = .sender ∧ (t.source 16).state = .offering ∧ t.st.ready = []) = true := by decide +kernel

theorem test_arbitrationReport_lost : leaves (.arbitrationReport 0b0100000001) (contending false) (fun t =>
    t.pbe.role = .receiver ∧ (t.source 16).state = .ready ∧ t.ts.inHand = none) = true := by decide +kernel

/-- The station sends its HELLO. -/
def sendingHello : State := sending .hello (.hello 5) (at5 .join)

/-- A sender that samples 0 where it drove 1 enters HALT (R11). The HELLO of station 5 drives bit 14 at 1. -/
theorem test_bitCompareMismatch : leaves (.bitCompareMismatch [false, false, false, false]) sendingHello (fun t =>
    t.sc.station = .halt ∧ t.lp.alerts.conflict ∧ t.pins.alertLow) = (crc (Frame.hello 5).checkedBits).msb := by
  decide +kernel

theorem test_frameAbandoned : leaves (.frameAbandoned ((span directTo5 true).dropLast.dropLast ++ [true]))
    (following directTo5 inRun) (fun t => t.pbe.role = .noRole ∧ t.pbe.idleCount = 0) = true := by decide +kernel

theorem test_decision_accepts : leaves (.decision (span directTo5 true)) (following directTo5 inRun) (fun t =>
    t.cu.role = .accepting ∧ t.cu.reservation = some 0) = true := by decide +kernel

/-- Load 0, rank of station 5 under pointer 15 is 5, station 5: the claim word 055h. -/
theorem test_decision_claims : leaves (.decision (span poolTo5 true)) (following poolTo5 inRun) (fun t =>
    t.cu.role = .claiming 0x055 ∧ t.pbe.claim = .claiming) = true := by decide +kernel

theorem test_frameDiscardedByErr : leaves (.frameDiscardedByErr (span (.hello 5) false)) sendingHello (fun t =>
    t.sc.helloPending = false ∧ t.sc.helloRetry = some 4 ∧ t.sc.station = .join) = true := by decide +kernel

theorem test_helloCompletion_own : leaves (.helloCompletion (span (.hello 5) true) 0xFFB5) sendingHello (fun t =>
    t.sc.station = .run ∧ t.sc.presence = 0x006A) = true := by decide +kernel

theorem test_helloCompletion_of_a_twin : leaves (.helloCompletion (span (.hello 5) true) 0xFFFF)
    (following (.hello 5) inRun) (fun t => t.sc.station = .halt) = true := by decide +kernel

theorem test_doneCompletion : leaves (.doneCompletion (span (.done 9 4 5 0 1 .completed) true) true)
    (following (.done 9 4 5 0 1 .completed) (withSource 0 (inState (.placed 9)))) (fun t =>
      (t.source 0).state = .idle ∧ t.pins.pbdOut.getLast? = some false) = true := by decide +kernel

theorem test_withdrawCompletion : leaves (.withdrawCompletion (span (.withdraw 2 4 5 3 1) true) true)
    (following (.withdraw 2 4 5 3 1) (withEntry (.pending 0))) (fun t =>
      t.svt.entry 0 = .occupied (held 2 3) (.closing .withdrawn) ∧ t.nl.length = 1) = true := by decide +kernel

/-- The DONE of entry 0 as a frame. -/
def doneFrame : Frame := .done 5 4 2 3 1 .completed

theorem test_noticeDrop : leaves (.noticeDrop (.done 0)) (sending (.notice (.done 0)) doneFrame (closing 15 none))
    (fun t => t.nl = [] ∧ t.svt.entry 0 = .free ∧ t.lp.alerts.drop ∧ t.pins.alertLow ∧
      t.ts.inHand = some { item := .reported, frame := doneFrame }) = true := by decide +kernel

theorem test_directOfferCompletion : leaves (.directOfferCompletion false) (decided .accepting directTo5 inRun) (fun t =>
    t.svt.entry 0 = .occupied (held 9 3) (.pending 0) ∧ t.pins.srqLow ∧ t.pins.pbdOut = [false]) = true := by
  decide +kernel

theorem test_poolOfferCompletion_won : leaves (.poolOfferCompletion 0x055)
    (decided (.claiming 0x055) poolTo5 inRun) (fun t =>
      (t.svt.entry 0).isPending ∧ t.cu.pointer = 5) = true := by decide +kernel

/-- Station 1 has rank 1: its word 011h is lower. -/
theorem test_poolOfferCompletion_lost : leaves (.poolOfferCompletion 0x011)
    (decided (.claiming 0x055) poolTo5 inRun) (fun t =>
      t.svt.entry 0 = .free ∧ t.cu.pointer = 1 ∧ t.cu.reservation = none) = true := by decide +kernel

theorem test_spreadOfferCompletion : leaves (.spreadOfferCompletion 0xFFFF) (decided .accepting spreadTo5 inRun)
    (fun t => (t.svt.entry 0).isPending ∧ (t.svt.entry 0).offer?.map (·.tracked) = some false ∧
      t.pins.pbdOut = fieldBits (0xFFDF : StationMask)) = true := by decide +kernel

/-- Source 0 in OFFERING with a retry count. -/
def offering (retry : Byte) : State := withSource 0 { inState .offering with retry := retry }

/-- The DIRECT offer of source 0 of station 5. -/
def offer0 : Frame := .direct 5 4 9 0 1 0x3C false

theorem test_sourceFailed : leaves (.sourceFailed 0) (sending (.offer 0) offer0 (offering 7)) (fun t =>
    (t.source 0).state = .failed ∧ (t.source 0).retry = 8 ∧ t.lp.alerts.fail ∧ t.pins.alertLow) = true ∧
    leaves (.sourceFailed 0) (offering 7) (fun t => t = offering 7) = true := by decide +kernel

/-- Kind 011 with ERR raw 1 and 0. -/
def invalidSpan (err : Bool) : List Bool := [false, true, true] ++ List.replicate 9 false ++ [err]

/-- The station follows a frame of rank 0, class 0, sender 0. -/
def followingZeros : State :=
  { inRun with pbe := { inRun.pbe with role := .receiver, current := List.replicate 11 false } }

theorem test_invalidKindFrameEnd : leaves (.invalidKindFrameEnd (invalidSpan true)) followingZeros (fun t =>
    t.pbe.role = .noRole ∧ t.pbe.idleCount = 0) = true ∧
    leaves (.frameDiscardedByErr (invalidSpan false)) followingZeros (fun t => t.pbe.role = .noRole) = true := by
  decide +kernel

/-! The port -/

/-- The command of these bytes leaves these bytes of response. -/
def responds (bytes : List Byte) (s : State) (response : List Byte) : Bool :=
  leaves (classifyFrame (byteBits bytes)) s fun t => t.lp.buffer.bytes = response ∧ t.lp.frame = .noFrame

theorem test_nop : responds [0x00, 0xAA] inRun [0x00, 0x00, 0x03, 0x50, 0x00, 0x00, 0x10, 0x00, 0x00] = true := by
  decide +kernel

theorem test_readId : responds [0x01] inRun [0x00, 0x01, 0xA7, 0x16, 0x01, 0x05] = true := by decide +kernel

theorem test_readStatus : responds [0x02] inRun
    [0x00, 0x02, 0x03, 0x50, 0x00, 0x00, 0x10, 0x00, 0x00, 0x00, 0x00, 0x00, 0x00, 0x00, 0x00] = true := by
  decide +kernel

theorem test_readStation : responds [0x03] inRun [0x00, 0x03, 0x08, 0x04, 0x10] = true := by decide +kernel

theorem test_readLine : responds [0x04, 0x01] inRun [0x00, 0x04, 0x01, 0x04, 0x04] = true ∧
    responds [0x04, 0x10] inRun [0x11, 0x04] = true := by decide +kernel

theorem test_readRoute : responds [0x05, 0x12] inRun [0x00, 0x05, 0x12, 0x00, 0x0F, 0x00, 0x00, 0x00, 0x00, 0x00] = true ∧
    responds [0x05, 0x18] inRun [0x11, 0x05] = true := by decide +kernel

theorem test_readSource : responds [0x06, 0x00] (withSource 0 (inState (.placed 9)))
    [0x00, 0x06, 0x00, 0x24, 0x01, 0x00, 0x09, 0x00, 0x00, 0x00] = true := by decide +kernel

theorem test_readEntry : responds [0x07, 0x00] (withEntry (.active true))
    [0x00, 0x07, 0x00, 0x2A, 0x21, 0x03, 0x04, 0x3C, 0x00] = true := by decide +kernel

theorem test_readStack : responds [0x08] (withEntry .detached)
    ([0x00, 0x08, 0x01, 0x80, 0x04] ++ List.replicate 14 0xFF) = true := by decide +kernel

theorem test_readPresence : responds [0x09] inRun [0x00, 0x09, 0x00, 0x21] = true := by decide +kernel

theorem test_setStation : responds [0x10, 0x01, 0x00, 0x01] (at5 .config) [0x11, 0x10] = true ∧
    leaves (.setStation ⟨[1, 2, 3], []⟩) (at5 .config) (fun t =>
      t.cs.declineLimit = 1 ∧ t.cs.retryDelay = 2 ∧ t.cs.tickDivider = 3) = true := by decide +kernel

/-- 10.4: the frame 11h, 05h, 0Fh is refused with BADARG; 11h, 05h, 07h sets LEVEL, active-low, debounce. -/
theorem test_setLine : responds [0x11, 0x05, 0x0F] (at5 .config) [0x11, 0x11] = true ∧
    leaves (.setLine ⟨[0x05, 0x07], []⟩) (at5 .config) (fun t =>
      t.setting 5 = { activeLow := true, level := true, debounce := true }) = true := by decide +kernel

theorem test_setRoute_empty_mask : responds [0x12, 0x12, 0x01, 0x05, 0x3C, 0x00, 0x00, 0x00, 0x01] (at5 .config)
    [0x11, 0x12] = true ∧ responds [0x12, 0x12, 0x01, 0x05, 0x3C, 0x00, 0x02, 0x12, 0x01] inRun [0x13, 0x12] = true := by
  decide +kernel

theorem test_commit : leaves (.commit ⟨[], []⟩) (at5 .config) (fun t =>
    t.sc.station = .join ∧ t.sc.helloPending ∧ t.pbe.synchronised = false ∧ t.lp.buffer.bytes = [0x00, 0x13]) = true := by
  decide +kernel

theorem test_setThreshold : responds [0x20, 0x10] inRun [0x00, 0x20, 0x10] = true ∧
    responds [0x20, 0x11] inRun [0x11, 0x20] = true := by decide +kernel

theorem test_raise : leaves (.raise ⟨[0x00], []⟩) inRun (fun t =>
    (t.source 16).state = .ready ∧ (t.source 16).generation = 1 ∧ t.st.ready = [16]) = true ∧
    responds [0x21, 0x01] inRun [0x14, 0x21] = true := by decide +kernel

theorem test_cancel : leaves (.cancel ⟨[0x00], []⟩) (withSource 0 (inState (.placed 9))) (fun t =>
    (t.source 0).state = .withdrawing 9 .no ∧ t.nl = [withdrawOf0 0 none]) = true ∧
    responds [0x22, 0x18] inRun [0x11, 0x22] = true := by decide +kernel

theorem test_ackAlert : responds [0x23]
    { inRun with lp := { inRun.lp with alerts := { fail := false, drop := true, conflict := false } } }
    [0x00, 0x23, 0x00] = true := by decide +kernel

theorem test_rejoin : leaves (.rejoin ⟨[], []⟩) (withEntry (.active false)) (fun t =>
    t.sc.station = .join ∧ t.svt.entry 0 = .free ∧ t.svt.stack = [] ∧ t.sc.id = 5 ∧ (t.route 0).enabled) = true := by
  decide +kernel

theorem test_peek : responds [0x30] (withEntry (.pending 0)) [0x00, 0x30, 0x00, 0x3C, 0x24, 0x83] = true ∧
    responds [0x30] inRun [0x01, 0x30] = true := by decide +kernel

theorem test_take : leaves (.take ⟨[], []⟩) (withEntry (.pending 0)) (fun t =>
    t.svt.entry 0 = .occupied (held 2 3) (.active false) ∧ t.svt.stack = [0] ∧
      t.lp.buffer.bytes = [0x00, 0x31, 0x00, 0x3C, 0x24, 0x83]) = true := by decide +kernel

theorem test_complete : leaves (.complete ⟨[], []⟩) (withEntry (.active false)) (fun t =>
    t.svt.entry 0 = .occupied (held 2 3) (.closing .completed) ∧ t.nl = [doneOf0 0 none] ∧
      t.lp.buffer.bytes = [0x00, 0x32, 0x80]) = true ∧ responds [0x32] inRun [0x02, 0x32] = true := by decide +kernel

theorem test_completeEntry : leaves (.completeEntry ⟨[0x00], []⟩) (withEntry .detached) (fun t =>
    t.svt.entry 0 = .free ∧ t.svt.stack = [] ∧ t.nl = [] ∧ t.lp.buffer.bytes = [0x00, 0x33, 0x00]) = true ∧
    responds [0x33, 0x01] inRun [0x10, 0x33] = true := by decide +kernel

theorem test_park : leaves (.park ⟨[], []⟩) inRun (fun t => t.sc.station = .parked) = true ∧
    responds [0x34] (at5 .parked) [0x13, 0x34] = true := by decide +kernel

theorem test_unpark : leaves (.unpark ⟨[], []⟩) (at5 .parked) (fun t => t.sc.station = .run) = true := by
  decide +kernel

theorem test_reset : leaves (.reset ⟨[], []⟩) (at5 .halt) (fun t =>
    t.sc.station = .reset ∧ t.resetPeriods = 16 ∧ t.lp.buffer.bytes = [0x5A]) = true := by decide +kernel

theorem test_unknownCommand : responds [0x0A] inRun [0x15, 0x0A] = true ∧
    leaves (.unknownCommand [true, false]) inRun (fun t => t.lp.buffer.bytes = [0x12]) = true := by decide +kernel

theorem test_commandFrameBegins : leaves .commandFrameBegins { inRun with lp := { inRun.lp with frame := .noFrame } }
    (fun t => t.lp.frame = .inProgress ∧ t.pins.lsdo = some false ∧ t.pins.lsdoOut = []) = true := by decide +kernel

theorem test_frameNotTaken : leaves (.frameNotTaken { bits := [] }) inRun (fun t =>
    t.lp.frame = .noFrame ∧ t.lp.buffer = inRun.lp.buffer ∧ t.pins.lsdo = none) = true := by decide +kernel

/-! What the statements assume is met -/

/-- The prescaler stands at n. -/
def ticking (n : Nat) : State := { inRun with liu := { inRun.liu with prescaler := n } }

/-- n periods of a RESET command are left. -/
def resetting (n : Nat) : State :=
  { State.reset with resetPeriods := n, pins := { State.reset.pins with vddLow := false } }

theorem test_witness_EmptyQueueStepIsOneClkinPeriod :
    ((ticking 4094).pending = [] ∧ (ticking 4094).sc.station.takesPart = true ∧
      (ticking 4094).liu.prescaler + 1 < 256 * (ticking 4094).cs.tickDivider.toNat) ∧
    (256 * (ticking 4095).cs.tickDivider.toNat ≤ (ticking 4095).liu.prescaler + 1) ∧
    ((at5 .config).sc.station = .config ∧ (at5 .halt).sc.station = .halt ∧ (at5 .halt).pending = []) ∧
    (State.reset.sc.station = .reset ∧ State.reset.resetPeriods = 0 ∧ State.reset.pending = []) ∧
    (1 < (resetting 2).resetPeriods ∧ (resetting 2).sc.station = .reset) ∧
    ((resetting 1).resetPeriods = 1 ∧ (resetting 1).pins.resetLow = false ∧ (resetting 1).pins.vddLow = false) := by
  decide +kernel

theorem test_witness_FullReset : inRun.portOpen ∧ (at5 .halt).portOpen ∧ State.reset.sc.station = .reset ∧
    inRun.sc.station ≠ .reset ∧ (resetting 16).sc.station = .reset ∧ (resetting 16).resetPeriods = 16 ∧
    (resetting 16).pins.resetLow = false ∧ (resetting 16).pins.vddLow = false ∧ (resetting 16).pending = [] := by
  decide +kernel

theorem test_witness_StationTick : (at5 .join).sc.station.takesPart = true ∧ inRun.sc.station.takesPart = true ∧
    (at5 .parked).sc.station.takesPart = true ∧ (inRun.route 3).enabled = false ∧ 16 ≤ (16 : SourceIndex).val ∧
    ((withSource 16 (inState (.backoff 1))).source 16).state = .backoff 1 := by decide +kernel

/-- Line 1, EDGE, at q inactive and armed past its entry sample, its fourth active sample due. -/
def edgeDue (s : State) : State :=
  s.setLineState 1 { lastSample := true, q := false, count := 3, armed := true, entryDue := false }

/-- The EDGE and LEVEL lines 1 and 0 with enabled routes, pins 0 and 1 high. -/
theorem test_witness_LineEventsReachTheirSource :
    ((edgeDue inRun).sc.station.takesPart = true ∧ ((edgeDue inRun).route (sourceOf 1)).enabled = true ∧
      ((edgeDue inRun).setting 1).level = false ∧ ((edgeDue inRun).line 1).q = false ∧
      ((edgeDue inRun).line 1).armed = true ∧ ((edgeDue inRun).line 1).entryDue = false ∧
      (((3 : BitVec 16).getLsbD 1 != ((edgeDue inRun).setting 1).activeLow) &&
        decide (3 ≤ ((edgeDue inRun).line 1).count)) = true ∧ ((edgeDue inRun).source (sourceOf 1)).state = .idle) ∧
    ((inRun.route (sourceOf 0)).enabled = true ∧ (inRun.setting 0).level = true ∧ (inRun.line 0).armed = true ∧
      ((3 : BitVec 16).getLsbD 0 != (inRun.setting 0).activeLow) = true ∧
      (inRun.source (sourceOf 0)).state = .idle) ∧
    (∀ r ∈ [inState .offering, inState (.placed 9), inState (.withdrawing 9 .no), inState (.backoff 1),
        inState (.backoff 2), inState .failed, inState .ready, { inState .ready with cancelPending := true }],
      ((edgeDue (withSource 1 r)).source (sourceOf 1)) = r ∧ ((edgeDue (withSource 1 r)).line 1).q = false) ∧
    (∀ r ∈ [inState .idle, inState .ready, inState .offering, inState (.backoff 1), inState (.placed 9),
        inState (.withdrawing 9 .no), inState .failed],
      ((withLine 0 (withSource 0 r)).source (sourceOf 0)) = r ∧ ((withLine 0 (withSource 0 r)).line 0).q = true ∧
      ((0 : BitVec 16).getLsbD 0 != ((withLine 0 (withSource 0 r)).setting 0).activeLow) = false) ∧
    ((contending false).offerInHand 16 = true ∧ (withSource 0 (inState .ready)).offerInHand 0 = false) := by
  decide +kernel

/-- Line n with a setting. -/
def set (n : LineIndex) (c : LineSetting) (s : State) : State :=
  { s with cs := { s.cs with lines := s.cs.lines.set n.val c } }

/-- A source whose line gives no event: its enabled EDGE line at its entry sample, disarmed, without a rise of q, or
with q active already; its enabled LEVEL line not asking for an IDLE source, disarmed, or asking for a BACKOFF one. -/
theorem test_witness_StationTickRunsBackoffTimers :
    (∀ l ∈ [{ lastSample := true, q := false, count := 3, armed := true, entryDue := true },
        { lastSample := true, q := false, count := 3, armed := false, entryDue := false },
        { lastSample := true, q := false, count := 2, armed := true, entryDue := false },
        ({ lastSample := true, q := true, count := 4, armed := true, entryDue := false } : LineState)],
      let s := (withSource 1 (inState (.backoff 1))).setLineState 1 l
      let active := (2 : BitVec 16).getLsbD 1 != (s.setting 1).activeLow
      let q := if (s.setting 1).debounce then active && decide (3 ≤ (s.line 1).count) else active
      (s.route 1).enabled = true ∧ sourceOf 1 = 1 ∧ (s.setting 1).level = false ∧
        ((s.line 1).q = true ∨ q = false ∨ (s.line 1).armed = false ∨ (s.line 1).entryDue = true)) ∧
    (∀ c ∈ [(inState .idle, true, (0 : BitVec 16), false), (inState .idle, false, 1, true),
        (inState (.backoff 1), true, 1, true), (inState .idle, false, 1, false)],
      let s := (withSource 0 c.1).setLineState 0
        { lastSample := c.2.2.2, q := c.2.2.2, count := 0, armed := c.2.1, entryDue := false }
      let q := c.2.2.1.getLsbD 0 != (s.setting 0).activeLow
      (s.route 0).enabled = true ∧ (s.setting 0).level = true ∧ (s.setting 0).debounce = false ∧
        ((s.line 0).q = true → q = true) ∧ (q = true → (s.line 0).armed = true → (s.source 0).state ≠ .idle)) := by
  decide +kernel

theorem test_witness_DebounceQualifiedSetsQ :
    ((edgeDue inRun).sc.station.takesPart = true ∧ ((edgeDue inRun).setting 1).debounce = true ∧
      ((edgeDue inRun).line 1).count = 3 ∧ ((edgeDue inRun).line 1).q = false ∧
      ((edgeDue inRun).route (sourceOf 1)).enabled = true ∧ ((edgeDue inRun).source (sourceOf 1)).state = .idle ∧
      ((edgeDue inRun).line 1).armed = true ∧ ((edgeDue inRun).line 1).entryDue = false) ∧
    (let s := edgeDue (set 1 { activeLow := true, level := true, debounce := true } inRun);
      (s.setting 1).debounce = true ∧ (s.setting 1).level = true ∧ (s.line 1).count = 3 ∧ (s.line 1).q = false) ∧
    (let s := { edgeDue inRun with cs := { inRun.cs with routes := ConfigStore.reset.routes } };
      (s.route (sourceOf 1)).enabled = false ∧ (s.setting 1).debounce = true ∧ (s.line 1).count = 3) := by
  decide +kernel

theorem test_witness_TimersExpireAtTheirLastTick :
    (let s := (withSource 0 (inState (.backoff 1))).putSource 0 (inState (.backoff 1)) [16];
      s.sc.station.takesPart = true ∧ (s.source 0).state = .backoff 1 ∧ s.st.ready = [16] ++ [] ∧
        s.readyWith 0 [16] []) ∧
    ((closing 1 (some 1)).nl = [] ++ doneOf0 1 (some 1) :: [] ∧ (doneOf0 1 (some 1)).holdOff = some 1 ∧
      (∀ m ∈ ([] ++ [] : List Notice), m.ref ≠ (doneOf0 1 (some 1)).ref)) ∧
    ({ at5 .join with sc := { (at5 .join).sc with helloRetry := some 1 } }.sc.helloRetry = some 1) := by
  decide +kernel

theorem test_witness_RecessiveSamplesAreCounted :
    ((unsynchronised 0).sc.station.takesPart = true ∧ (unsynchronised 0).pbe.synchronised = false ∧
      (unsynchronised 0).pbe.integrationCount + 96 = 96) ∧
    ((unsynchronised 95).pbe.integrationCount + 0 < 96 ∧ (unsynchronised 95).pbe.integrationCount < 96) ∧
    ((idleAt 11).sc.station.takesPart = true ∧ (idleAt 11).pbe.synchronised = true ∧ (idleAt 11).pbe.role = .noRole ∧
      (idleAt 11).pbe.idleCount ≤ 11 ∧ (idleAt 10).pbe.idleCount < 11 ∧ (idleAt 0).pbe.idleCount < 11) := by
  decide +kernel

theorem test_witness_StartOpportunityEntersTheChosenFrame :
    ((at5 .join).sc.station.takesPart = true ∧ (at5 .join).pbe.synchronised = true ∧ (at5 .join).pbe.role = .noRole ∧
      (at5 .join).pbe.idleCount = 11 ∧ (at5 .join).sc.station = .join ∧ (at5 .join).sc.helloPending = true) ∧
    (let s := { closing 0 none with nl := [withdrawOf0 1 (some 4), doneOf0 0 none] };
      s.sc.station = .run ∧ s.pbe.idleCount = 11 ∧ s.nl = [withdrawOf0 1 (some 4)] ++ doneOf0 0 none :: [] ∧
        (∀ m ∈ [withdrawOf0 1 (some 4)], m.holdOff ≠ none) ∧ (doneOf0 0 none).holdOff = none ∧
        (doneOf0 0 none).body = .done 0 .completed) ∧
    ((withdrawing 0 none).nl = [] ++ withdrawOf0 0 none :: [] ∧ (withdrawOf0 0 none).body = .withdraw 0 ∧
      (withdrawOf0 0 none).holdOff = none) ∧
    ((withSource 0 (inState .ready)).st.ready = 0 :: [] ∧ (inRun.route 0).mode = .direct ∧
      (withSource 1 (inState .ready)).st.ready = 1 :: [] ∧ (inRun.route 1).mode = .pool ∧
      (∀ m ∈ (withSource 1 (inState .ready)).nl, m.holdOff ≠ none)) ∧
    (let s := withSource 2 { inState .ready with remaining := some 0x0212 };
      s.st.ready = 2 :: [] ∧ (s.route 2).mode = .spread ∧ (s.source 2).remaining = some 0x0212) ∧
    (let s := { at5 .join with sc := { (at5 .join).sc with helloPending := false } };
      s.sc.station = .join ∧ s.sc.helloPending = false ∧ s.pbe.idleCount = 11) ∧
    (inRun.nl = [] ∧ inRun.st.ready = [] ∧ inRun.pbe.synchronised = true ∧ inRun.pbe.role = .noRole ∧
      inRun.pbe.idleCount = 11 ∧ inRun.sc.station = .run) := by decide +kernel

/-- The DIRECT offer of source 16 of station 5. -/
def offer16 : Frame := .direct 5 4 9 16 1 0x3C false

/-- The station contends with an item and its frame. -/
def contends (i : Item) (f : Frame) (s : State) : State :=
  { s with
    ts := { inHand := some { item := i, frame := f } },
    pbe := { s.pbe with role := .contender, current := [false], driving := true } }

theorem test_witness_ArbitrationGoesToTheLowestField :
    ((contending true).sc.station.takesPart = true ∧ (contending true).pbe.role = .contender ∧
      (contending true).pbe.current = [false] ∧
      (contending true).ts.inHand = some { item := .offer 16, frame := offer16 } ∧
      fieldBits (0b1001000101 : BitVec 10) = offer16.arbitrationBits ∧ ((contending true).source 16).state = .ready ∧
      ((contending true).source 16).cancelPending = true ∧ ((contending false).source 16).cancelPending = false) ∧
    (offer16.arbitrationBits = [] ++ true :: [false, false, true, false, false, false, true, false, true] ∧
      fieldBits (0b0100000001 : BitVec 10) =
        [] ++ false :: [true, false, false, false, false, false, false, false, true]) ∧
    ((contends .hello (.hello 5) (at5 .join)).ts.inHand = some { item := .hello, frame := .hello 5 } ∧
      fieldBits (0b0000000101 : BitVec 10) = (Frame.hello 5).arbitrationBits ∧
      (Frame.hello 5).arbitrationBits =
        [false, false, false, false, false, false, false, true, false] ++ true :: [] ∧
      fieldBits (0b0000000100 : BitVec 10) =
        [false, false, false, false, false, false, false, true, false] ++ false :: []) ∧
    ((contends (.notice (.done 0)) doneFrame (closing 0 none)).ts.inHand =
        some { item := .notice (.done 0), frame := doneFrame } ∧
      fieldBits (0b0101000101 : BitVec 10) = doneFrame.arbitrationBits) ∧
    (let s := { inRun with pbe := { inRun.pbe with role := .receiver, current := [false] } };
      s.sc.station.takesPart = true ∧ s.pbe.role = .receiver ∧ s.pbe.current = [false]) := by decide +kernel

theorem test_witness_ReceiverReadsWhatTheSenderDrove :
    (directTo5.namesSomeone ∧ (following directTo5 inRun).sc.station.takesPart = true ∧
      (following directTo5 inRun).pbe.role = .receiver ∧
      (following directTo5 inRun).pbe.current = directTo5.sentBits.take 11) ∧
    ((Frame.pool 0 0 1 0 0 0 0 false).namesSomeone ∧ (Frame.spread 15 15 0x8000 23 15 0xFF).namesSomeone) :=
  ⟨⟨trivial, by decide +kernel, by decide +kernel, by decide +kernel⟩, by show (1 : StationMask) ≠ 0; decide, by show (0x8000 : StationMask) ≠ 0; decide⟩

/-- Source 0 is sent as offer 0. -/
def sending0 (r : SourceRecord) : State := sending (.offer 0) offer0 (withSource 0 r)

theorem test_witness_SpansAreReadByRole :
    ((sending0 (inState .offering)).sc.station.takesPart = true ∧ (sending0 (inState .offering)).pbe.role = .sender ∧
      (sending0 (inState .offering)).pbe.current.length = 11 ∧
      (sending0 (inState .offering)).ts.inHand = some { item := .offer 0, frame := offer0 } ∧
      offer0.sentBits.drop 11 = [] ++ true :: (offer0.sentBits.drop 12)) ∧
    (let s := following directTo5 inRun;
      let good := directTo5.sentBits.drop 11;
      let span := good.take 20 ++ [!(good.getD 20 false)] ++ good.drop 21;
      let bits := s.pbe.current ++ span ++ [true];
      s.pbe.role = .receiver ∧ s.pbe.current.length = 11 ∧ sampledKind bits ≠ .invalid ∧
        bits.length = (sampledKind bits).errAt + 1 ∧ bits.getD (sampledKind bits).commitAt true = false ∧
        checkFails bits = true) := by decide +kernel

theorem test_witness_FramesWithoutOutcome :
    (sending0 (inState .offering)).spanEnd [false] = .mismatch ∧
    (following directTo5 inRun).spanEnd ((directTo5.sentBits.drop 11).dropLast ++ [true]) = .abandoned ∧
    followingZeros.spanEnd (invalidSpan true) = .invalidEnd := by decide +kernel

/-- The WITHDRAW of source 0 as a frame. -/
def withdrawFrame : Frame := .withdraw 5 4 9 0 1

/-- The station sends the DONE of entry 0. -/
def sendingDone (attempts : Nat) : State := sending (.notice (.done 0)) doneFrame (closing attempts none)

/-- The station sends the WITHDRAW of source 0. -/
def sendingWithdraw (attempts : Nat) : State :=
  sending (.notice (.withdraw 0)) withdrawFrame (withdrawing attempts none)

theorem test_witness_DiscardByErrReachesTheOwner :
    ((following directTo5 inRun).spanEnd (span directTo5 false) = .discarded ∧
      (following directTo5 inRun).pbe.role = .receiver) ∧
    (sendingHello.spanEnd (span (.hello 5) false) = .discarded ∧ sendingHello.pbe.role = .sender ∧
      sendingHello.ts.inHand = some { item := .hello, frame := .hello 5 }) ∧
    (∀ n ∈ [14, 15], (sendingDone n).spanEnd (span doneFrame false) = .discarded ∧
      (sendingDone n).ts.inHand = some { item := .notice (doneOf0 n none).ref, frame := doneFrame } ∧
      (sendingDone n).nl = [] ++ doneOf0 n none :: [] ∧ (doneOf0 n none).attempts = n ∧
      (doneOf0 n none).ref = .done 0 ∧ (sendingDone n).svt.entry 0 = .occupied (held 2 3) (.closing .completed)) ∧
    ((sendingWithdraw 15).spanEnd (span withdrawFrame false) = .discarded ∧
      (sendingWithdraw 15).nl = [] ++ withdrawOf0 15 none :: [] ∧ (withdrawOf0 15 none).ref = .withdraw 0 ∧
      ((sendingWithdraw 15).source 0).state = .withdrawing 9 .no) ∧
    (∀ r ∈ [inState .offering, { inState .offering with retry := 7 }, { inState .offering with cancelPending := true }],
      (sending0 r).spanEnd (span offer0 false) = .discarded ∧ (sending0 r).pbe.role = .sender ∧
        (sending0 r).ts.inHand = some { item := .offer 0, frame := offer0 } ∧ offer0.kind ≠ .spread ∧
        ((sending0 r).source 0) = r) ∧
    (let s := sending (.offer 2) (.spread 5 4 0x0212 2 1 0x3C)
        (withSource 2 { inState .offering with remaining := some 0x0212 });
      s.spanEnd (span (.spread 5 4 0x0212 2 1 0x3C) false) = .discarded ∧ (s.source 2).state = .offering ∧
        (s.source 2).remaining = some 0x0212 ∧ (0x0212 : StationMask) ≠ 0) ∧
    ((sending0 (inState .offering)).cs.declineLimit ≠ 0 ∧
      ({ inState .offering with retry := 7 } : SourceRecord).retry.toNat + 1 =
        (sending0 (inState .offering)).cs.declineLimit.toNat) := by decide +kernel

theorem test_witness_LastAttemptsFail :
    ((sendingDone 15).sc.station.takesPart = true ∧ (sendingDone 15).pbe.role = .sender ∧
      (sendingDone 15).ts.inHand = some { item := .notice (doneOf0 15 none).ref, frame := doneFrame } ∧
      (sendingDone 15).nl = [] ++ doneOf0 15 none :: [] ∧ (doneOf0 15 none).ref = .done 0 ∧
      (sendingDone 15).svt.entry 0 = .occupied (held 2 3) (.closing .completed)) ∧
    ((sendingWithdraw 15).ts.inHand = some { item := .notice (withdrawOf0 15 none).ref, frame := withdrawFrame } ∧
      (sendingWithdraw 15).nl = [] ++ withdrawOf0 15 none :: [] ∧
      ((sendingWithdraw 15).source 0).state = .withdrawing 9 .no) ∧
    (let s := sending (.offer 0) offer0 (offering 7);
      s.sc.station.takesPart = true ∧ s.pbe.role = .sender ∧
      s.ts.inHand = some { item := .offer 0, frame := offer0 } ∧ (s.source 0).state = .offering ∧
      (s.source 0).cancelPending = false ∧ s.cs.declineLimit ≠ 0 ∧
      (s.source 0).retry.toNat + 1 = s.cs.declineLimit.toNat) := by decide +kernel

/-- The station sends a frame whose outcome its owner has had. -/
def sendingReported (f : Frame) : State := sending .reported f inRun

theorem test_witness_LastAttemptsFail_reported :
    ((sendingReported doneFrame).pbe.role = .sender ∧
      (sendingReported doneFrame).ts.inHand = some { item := .reported, frame := doneFrame } ∧
      (sendingReported doneFrame).spanEnd (span doneFrame false) = .discarded ∧
      (sendingReported doneFrame).spanEnd (span doneFrame true) = .good doneFrame ∧
      doneFrame = .done 5 4 2 3 1 .completed ∧ (2 : StationId) ≠ (sendingReported doneFrame).sc.id) ∧
    (withdrawFrame = .withdraw 5 4 9 0 1 ∧ (9 : StationId) ≠ (sendingReported withdrawFrame).sc.id ∧
      (sendingReported withdrawFrame).spanEnd (span withdrawFrame true) = .good withdrawFrame) ∧
    (∀ f ∈ [offer0, .pool 5 4 0x0212 15 1 1 0x3C false, .spread 5 4 0x0212 2 1 0x3C],
      let s := { sent 0 .declined f inRun with ts := { inHand := some { item := .reported, frame := f } } };
      s.pbe.role = .sender ∧ s.sc.station.takesPart = true ∧ s.cu.role = .declined) := by decide +kernel

/-- A WITHDRAW queued anew by a CANCEL after the drop keeps its attempt count at the end of the dropped one's
frame. -/
theorem test_cancel_after_drop : leaves (.withdrawCompletion (span withdrawFrame true) true)
    (sending .reported withdrawFrame (withdrawing 0 none)) (fun t => t.nl = [withdrawOf0 0 none]) = true := by
  decide +kernel

theorem test_witness_DecisionReservesOrDeclines :
    (let s := following directTo5 inRun;
      s.spanEnd (span directTo5 true) = .good directTo5 ∧ directTo5.offer = some (held 9 3) ∧
        s.mayServe directTo5 (held 9 3) ∧ s.svt.entry 0 = .free ∧ directTo5.kind ≠ .pool) ∧
    (let s := following poolTo5 inRun;
      s.spanEnd (span poolTo5 true) = .good poolTo5 ∧ poolTo5.offer = some (held 9 18) ∧
        s.mayServe poolTo5 (held 9 18) ∧ s.svt.entry 0 = .free) ∧
    (let s := following directTo5 (at5 .parked);
      s.spanEnd (span directTo5 true) = .good directTo5 ∧ ¬ s.mayServe directTo5 (held 9 3)) := by
  refine ⟨⟨by decide +kernel, by decide +kernel, ?_, by decide +kernel, by decide +kernel⟩,
    ⟨by decide +kernel, by decide +kernel, ?_, by decide +kernel⟩, by decide +kernel, ?_⟩
  · exact (State.eligibleHandle_eq_some (o := held 9 3) (h := 0) (by decide +kernel) |>.mp (by decide +kernel)).1
  · exact (State.eligibleHandle_eq_some (o := held 9 18) (h := 0) (by decide +kernel) |>.mp (by decide +kernel)).1
  · intro h
    exact absurd h.1 (by decide +kernel)

theorem test_witness_OwnHelloEntersRun : sendingHello.spanEnd (span (.hello 5) true) = .good (.hello sendingHello.sc.id) ∧
    sendingHello.pbe.role = .sender := by decide +kernel

theorem test_witness_TwinFramesHalt :
    ((following (.hello 5) inRun).pbe.role = .receiver ∧
      (following (.hello 5) inRun).spanEnd (span (.hello 5) true) = .good (.hello 5) ∧
      (following (.done 5 4 9 0 1 .completed) inRun).spanEnd (span (.done 5 4 9 0 1 .completed) true) =
        .good (.done 5 4 9 0 1 .completed) ∧
      (following (.withdraw 5 4 5 0 1) inRun).spanEnd (span (.withdraw 5 4 5 0 1) true) =
        .good (.withdraw 5 4 5 0 1)) ∧
    ((decided .accepting offer0 inRun).pbe.role = .receiver ∧
      (decided .accepting offer0 inRun).decidedFrame = some offer0 ∧
      (decided (.claiming 0x055) (.pool 5 4 0x0032 15 18 1 0x3C false) inRun).decidedFrame =
        some (.pool 5 4 0x0032 15 18 1 0x3C false) ∧
      (decided .accepting (.spread 5 4 0x0032 18 1 0x3C) inRun).decidedFrame =
        some (.spread 5 4 0x0032 18 1 0x3C)) := by decide +kernel

theorem test_witness_EntryToIdleTakesAStandingRequest :
    (let s := (withSource 0 (inState .ready)).putSource 0 (inState .ready) [16, 0];
      (s.st.ready.filter fun j => j != 0) = [16] ++ [] ∧ s.readyWith 0 [16] [] ∧ (s.source 0).again = false ∧
        s.levelAsks 0 = false) ∧
    ((withLine 0 (withSource 0 (inState .failed))).levelAsks 0 = true ∧
      (withSource 16 { inState (.placed 9) with again := true }).levelAsks 16 = false ∧
      ((withSource 16 { inState (.placed 9) with again := true }).source 16).again = true ∧
      (withSource 16 (inState (.placed 9))).readyWith 16 [] []) := by decide +kernel

/-- A DONE of station 9 for source 0 of station 5. -/
def doneTo5 : Frame := .done 9 4 5 0 1 .completed

theorem test_witness_DoneEndsTheMatchingOffer :
    (∀ r ∈ [inState (.placed 9), inState (.withdrawing 9 .acknowledged), inState .idle],
      (following doneTo5 (withSource 0 r)).spanEnd (span doneTo5 true) =
        .good (.done 9 4 (following doneTo5 (withSource 0 r)).sc.id 0 1 .completed) ∧
      (following doneTo5 (withSource 0 r)).pbe.role = .receiver ∧
      (9 : StationId) ≠ (following doneTo5 (withSource 0 r)).sc.id ∧
      (following doneTo5 (withSource 0 r)).source 0 = r ∧ r.generation = 1) := by decide +kernel

/-- Only entry 0 is occupied. -/
theorem entry_withEntry (p : Phase) (h : Handle) :
    (withEntry p).svt.entry h = if h = 0 then .occupied (held 2 3) p else .free := by
  have e : inRun.svt.entry h = .free := get_replicate Entry.free h
  have : (withEntry p).svt.entry h = (inRun.svt.setEntry 0 (.occupied (held 2 3) p)).entry h := rfl
  rw [this, ServiceTable.entry_setEntry, e]

theorem noDuplicates_withEntry (p : Phase) (f : Frame) : NoDuplicateEntries (following f (withEntry p)) := by
  intro h j o q o' q' h1 h2 _ _
  have e : ∀ h, (following f (withEntry p)).svt.entry h = if h = 0 then .occupied (held 2 3) p else .free :=
    entry_withEntry p
  rw [e] at h1 h2
  split at h1
  · split at h2
    · simp_all
    · cases h2
  · cases h1

/-- A WITHDRAW of station 2 for its source 3, held here. -/
def withdrawTo5 : Frame := .withdraw 2 4 5 3 1

theorem test_witness_WithdrawReachesTheMatchingEntry :
    (∀ p ∈ [Phase.pending 0, .active false, .detached, .closing .withdrawn],
      (following withdrawTo5 (withEntry p)).spanEnd (span withdrawTo5 true) =
        .good (.withdraw 2 4 (following withdrawTo5 (withEntry p)).sc.id 3 1) ∧
      (following withdrawTo5 (withEntry p)).pbe.role = .receiver ∧
      (2 : StationId) ≠ (following withdrawTo5 (withEntry p)).sc.id ∧
      (following withdrawTo5 (withEntry p)).svt.entry 0 = .occupied (held 2 3) p ∧ (held 2 3).tracked = true ∧
      (held 2 3).origin = 2 ∧ (held 2 3).source = 3 ∧ (held 2 3).generation = 1) ∧
    (∀ p, NoDuplicateEntries (following withdrawTo5 (withEntry p))) ∧
    ((following withdrawTo5 inRun).spanEnd (span withdrawTo5 true) = .good (.withdraw 2 4 5 3 1) ∧
      ∀ h, (following withdrawTo5 inRun).svt.entry h = .free) :=
  ⟨by decide +kernel, fun p => noDuplicates_withEntry p _, by decide +kernel⟩

/-- The DONE of entry 0 to the station itself, of its own source 3. -/
def selfDone : Notice :=
  { body := .done 0 .completed, addressee := 5, source := 3, generation := 1, cls := 4, attempts := 0, holdOff := none }

/-- The WITHDRAW of source 0 to the station itself. -/
def selfWithdraw : Notice :=
  { body := .withdraw 0, addressee := 5, source := 0, generation := 1, cls := 4, attempts := 0, holdOff := none }

/-- The station sends its own DONE to itself. -/
def sendingSelfDone (r : SourceRecord) : State :=
  sending (.notice (.done 0)) (.done 5 4 5 3 1 .completed)
    { (withSource 3 r) with
      svt := inRun.svt.setEntry 0 (.occupied (held 5 3) (.closing .completed)), nl := [selfDone] }

/-- The station sends its own WITHDRAW to itself. -/
def sendingSelfWithdraw (p : Phase) : State :=
  sending (.notice (.withdraw 0)) (.withdraw 5 4 5 0 1)
    { (withSource 0 (inState (.withdrawing 5 .no))) with
      svt := inRun.svt.setEntry 0 (.occupied (held 5 0) p), nl := [selfWithdraw] }

theorem test_self_done : leaves (.doneCompletion (span (.done 5 4 5 3 1 .completed) true) true)
    (sendingSelfDone (inState (.placed 5))) (fun t => t.nl = [] ∧ t.svt.entry 0 = .free ∧
      (t.source 3).state = .idle) = true := by decide +kernel

theorem test_witness_notices_to_another_and_to_itself :
    (∀ r ∈ [inState (.placed 5), inState (.withdrawing 5 .dropped), inState .idle],
      (sendingSelfDone r).pbe.role = .sender ∧
      (sendingSelfDone r).ts.inHand = some { item := .notice selfDone.ref, frame := .done 5 4 5 3 1 .completed } ∧
      (sendingSelfDone r).spanEnd (span (.done 5 4 5 3 1 .completed) true) = .good (.done 5 4 5 3 1 .completed) ∧
      (sendingSelfDone r).nl = [] ++ selfDone :: [] ∧ (sendingSelfDone r).sc.id = 5 ∧
      (sendingSelfDone r).svt.entry 0 = .occupied (held 5 3) (.closing .completed) ∧
      (sendingSelfDone r).source 3 = r) ∧
    (∀ p ∈ [Phase.pending 0, .active false, .detached, .closing .withdrawn],
      (sendingSelfWithdraw p).pbe.role = .sender ∧
      (sendingSelfWithdraw p).ts.inHand = some { item := .notice selfWithdraw.ref, frame := .withdraw 5 4 5 0 1 } ∧
      (sendingSelfWithdraw p).spanEnd (span (.withdraw 5 4 5 0 1) true) = .good (.withdraw 5 4 5 0 1) ∧
      (sendingSelfWithdraw p).nl = [] ++ selfWithdraw :: [] ∧
      ((sendingSelfWithdraw p).source 0).state = .withdrawing 5 .no ∧
      (sendingSelfWithdraw p).svt.entry 0 = .occupied (held 5 0) p ∧ (held 5 0).origin = 5) ∧
    (∀ p, NoDuplicateEntries (sendingSelfWithdraw p)) ∧
    ((following (.done 9 4 2 0 1 .completed) inRun).spanEnd (span (.done 9 4 2 0 1 .completed) true) =
        .good (.done 9 4 2 0 1 .completed) ∧
      (following (.withdraw 9 4 2 0 1) inRun).spanEnd (span (.withdraw 9 4 2 0 1) true) = .good (.withdraw 9 4 2 0 1)) := by
  refine ⟨by decide +kernel, by decide +kernel, fun p h j o q o' q' h1 h2 _ _ => ?_, by decide +kernel⟩
  have e : ∀ h, (sendingSelfWithdraw p).svt.entry h = if h = 0 then .occupied (held 5 0) p else .free := by
    intro h
    have e : inRun.svt.entry h = .free := get_replicate Entry.free h
    have : (sendingSelfWithdraw p).svt.entry h = (inRun.svt.setEntry 0 (.occupied (held 5 0) p)).entry h := rfl
    rw [this, ServiceTable.entry_setEntry, e]
  rw [e] at h1 h2
  split at h1
  · split at h2
    · simp_all
    · cases h2
  · cases h1

theorem test_witness_AcknowledgementEndsANotice :
    (∀ n ∈ [0, 14, 15], (sendingDone n).pbe.role = .sender ∧
      (sendingDone n).ts.inHand = some { item := .notice (doneOf0 n none).ref, frame := doneFrame } ∧
      (sendingDone n).spanEnd (span doneFrame true) = .good doneFrame ∧
      (sendingDone n).nl = [] ++ doneOf0 n none :: [] ∧ (doneOf0 n none).addressee ≠ (sendingDone n).sc.id ∧
      (doneOf0 n none).body = .done 0 .completed ∧ doneFrame = .done (sendingDone n).sc.id 4 2 3 1 .completed ∧
      (sendingDone n).svt.entry 0 = .occupied (held 2 3) (.closing .completed) ∧ (doneOf0 n none).attempts = n) ∧
    (∀ n ∈ [0, 14, 15], (sendingWithdraw n).pbe.role = .sender ∧
      (sendingWithdraw n).ts.inHand = some { item := .notice (withdrawOf0 n none).ref, frame := withdrawFrame } ∧
      (sendingWithdraw n).spanEnd (span withdrawFrame true) = .good withdrawFrame ∧
      (sendingWithdraw n).nl = [] ++ withdrawOf0 n none :: [] ∧
      (withdrawOf0 n none).addressee ≠ (sendingWithdraw n).sc.id ∧ (withdrawOf0 n none).body = .withdraw 0 ∧
      withdrawFrame = .withdraw (sendingWithdraw n).sc.id 4 9 0 1 ∧
      ((sendingWithdraw n).source 0).state = .withdrawing 9 .no) := by decide +kernel

/-- Source 0's DIRECT offer has been decided on. -/
def sent0 (role : ResponseRole) (r : SourceRecord) : State := sent 0 role offer0 (withSource 0 r)

/-- Records of source 0 for the four ends of a round. -/
def rounds : List SourceRecord :=
  [inState .offering, { inState .offering with retry := 7 }, { inState .offering with retry := 255 },
   { inState .offering with cancelPending := true }]

theorem test_witness_DirectOfferCompletes :
    ((decided .accepting directTo5 inRun).decidedFrame = some directTo5 ∧
      (decided .declined directTo5 inRun).decidedFrame = some directTo5 ∧
      (decided .accepting directTo5 inRun).pbe.role = .receiver ∧
      (9 : StationId) ≠ (decided .accepting directTo5 inRun).sc.id) ∧
    (∀ r ∈ rounds, ∀ role ∈ [ResponseRole.declined, .accepting],
      (sent0 role r).decidedFrame = some (.direct 5 4 9 0 1 0x3C false) ∧ (sent0 role r).pbe.role = .sender ∧
      (sent0 role r).ts.inHand = some { item := .offer 0, frame := offer0 } ∧
      ((sent0 role r).source 0) = r ∧ r.state = .offering ∧ (sent0 role r).cu.role = role ∧
      (sent0 role r).cs.declineLimit = 8) := by decide +kernel

/-- Source 1's POOL offer, pointer 15. -/
def pool1 : Frame := .pool 5 4 0x0212 15 1 1 0x3C false

/-- A request edge at a READY source on the ready list, its offer in hand with cancel pending, or not in hand. -/
theorem test_witness_LineEventsReachTheirSource_ready :
    (let s := contends (.offer 1) pool1 (edgeDue (withSource 1 { inState .ready with cancelPending := true }));
      1 ∈ s.st.ready ∧ (s.source (sourceOf 1)).state = .ready ∧ s.offerInHand (sourceOf 1) = true ∧
        (s.source (sourceOf 1)).cancelPending = true ∧ (s.line 1).armed = true) ∧
    (let s := edgeDue (withSource 1 (inState .ready));
      1 ∈ s.st.ready ∧ (s.source (sourceOf 1)).state = .ready ∧ s.offerInHand (sourceOf 1) = false) := by
  decide +kernel

/-- The POOL offer of a twin of station 5 on which station 5 has decided, and a word that beats its own. -/
theorem test_witness_TwinFramesHalt_pool :
    let s := decided (.claiming 0x055) (.pool 5 4 0x0032 15 18 1 0x3C false) inRun
    s.pbe.role = .receiver ∧ s.decidedFrame = some (.pool 5 4 0x0032 15 18 1 0x3C false) ∧
      s.poolResponse 0x011 false ([false, false, false, false, false, false, false] ++ List.replicate 7 true) :=
  ⟨by decide +kernel, by decide +kernel, Or.inr (Or.inr ⟨0x055, [false, false, false, false, false, false, false],
    [false, true, false, true, false, true], [false, false, false, false, false, false, false],
    [false, true, false, false, false, true], by decide +kernel⟩)⟩

theorem test_witness_PoolOfferGoesToTheLowestWord :
    ((decided .declined poolTo5 inRun).decidedFrame = some poolTo5 ∧
      (decided .declined poolTo5 inRun).pbe.role = .receiver ∧ (9 : StationId) ≠ inRun.sc.id ∧
      (decided .declined poolTo5 inRun).poolResponse 0x3FFF false (List.replicate 14 true)) ∧
    ((decided (.claiming 0x055) poolTo5 inRun).decidedFrame = some poolTo5 ∧
      (decided (.claiming 0x055) poolTo5 inRun).poolResponse 0x055 true (fieldBits (0x055 : BitVec 14)) ∧
      (decided (.claiming 0x055) poolTo5 inRun).poolResponse 0x1855 true (fieldBits (0x055 : BitVec 14)) ∧
      ∀ z : StationId, ¬ (((0x1855 : BitVec 14).extractLsb' 8 6).toNat ≤ 23 ∧
        (0x1855 : BitVec 14).extractLsb' 4 4 = z - 15 - 1 ∧ (0x1855 : BitVec 14).extractLsb' 0 4 = z)) ∧
    (decided (.claiming 0x055) poolTo5 inRun).poolResponse 0x011 false
      ([false, false, false, false, false, false, false] ++ List.replicate 7 true) ∧
    (((0x055 : BitVec 14).extractLsb' 8 6).toNat ≤ 23 ∧
      (0x055 : BitVec 14).extractLsb' 4 4 = (5 : StationId) - 15 - 1 ∧ (0x055 : BitVec 14).extractLsb' 0 4 = 5) ∧
    (¬ ((0x3FFF : BitVec 14).extractLsb' 8 6).toNat ≤ 23) ∧
    (((0x17FF : BitVec 14).extractLsb' 8 6).toNat ≤ 23 ∧ ¬ ((0x18FF : BitVec 14).extractLsb' 8 6).toNat ≤ 23) ∧
    (∀ r ∈ rounds, (sent 1 .declined pool1 (withSource 1 r)).decidedFrame = some pool1 ∧
      (sent 1 .declined pool1 (withSource 1 r)).pbe.role = .sender ∧
      (sent 1 .declined pool1 (withSource 1 r)).ts.inHand = some { item := .offer 1, frame := pool1 } ∧
      (sent 1 .declined pool1 (withSource 1 r)).source 1 = r ∧ r.state = .offering) := by
  refine ⟨⟨by decide +kernel, by decide +kernel, by decide +kernel, Or.inl (by decide +kernel)⟩,
    ⟨by decide +kernel, Or.inr (Or.inl ⟨0x055, by decide +kernel⟩), Or.inr (Or.inl ⟨0x055, by decide +kernel⟩),
      by decide +kernel⟩,
    Or.inr (Or.inr ⟨0x055, [false, false, false, false, false, false, false],
      [false, true, false, true, false, true], [false, false, false, false, false, false, false],
      [false, true, false, false, false, true], by decide +kernel⟩),
    by decide +kernel, by decide +kernel, by decide +kernel, by decide +kernel⟩

/-- Source 2's SPREAD offer. -/
def spread2 : Frame := .spread 5 4 0x0212 2 1 0x3C

theorem test_witness_SpreadOfferCompletes :
    ((decided .accepting spreadTo5 inRun).decidedFrame = some spreadTo5 ∧
      (decided .accepting spreadTo5 inRun).pbe.role = .receiver ∧ (9 : StationId) ≠ inRun.sc.id) ∧
    (∀ r ∈ rounds, (sent 2 .declined spread2 (withSource 2 { r with remaining := some 0x0212 })).decidedFrame =
        some spread2 ∧
      (sent 2 .declined spread2 (withSource 2 { r with remaining := some 0x0212 })).pbe.role = .sender ∧
      (sent 2 .declined spread2 (withSource 2 { r with remaining := some 0x0212 })).source 2 =
        { r with remaining := some 0x0212 } ∧ r.state = .offering) ∧
    ((0x0212 &&& (0xFDED &&& BitVec.allOnes 16) : StationMask) = 0 ∧
      (0x0212 &&& (0xFFEF &&& BitVec.allOnes 16) : StationMask) ≠ 0 ∧
      (0xFFEF &&& BitVec.allOnes 16 : StationMask) ≠ BitVec.allOnes 16 ∧
      (0xFFFF &&& BitVec.allOnes 16 : StationMask) = BitVec.allOnes 16) := by decide +kernel

/-! The port's statements -/

theorem test_witness_FramesThatCarryNoCommand :
    ({ inRun with lp := { inRun.lp with frame := .noFrame } }.lp.frame = .noFrame) ∧ ¬ State.reset.portOpen ∧
    ¬ { inRun with lp := { inRun.lp with frame := .begunInReset } }.portOpen ∧
    ¬ { inRun with lp := { inRun.lp with frame := .cutByReset inRun.lp.buffer } }.portOpen ∧ inRun.portOpen ∧
    inRun.lp.frame = .inProgress ∧ 3 ≤ (List.replicate 3 true).length ∧
    (List.replicate 7 true).length < 8 ∧ (0x0A : Byte) ∉ ([0x00, 0x01] : List Byte) ∧
    isCommandCode 0x0A = false ∧ isCommandCode 0xFF = false ∧ (List.replicate 31 (0 : Byte)).length ≤ 31 ∧
    31 < (List.replicate 32 (0 : Byte)).length := by decide +kernel

theorem test_witness_PortFrameBitsSpellTheirCommand :
    commandCode (.setLine ⟨[0x05, 0x07], []⟩) = some (0x11, ⟨[0x05, 0x07], []⟩) ∧
    (⟨[0x05, 0x07], []⟩ : PortTail).wellFormed = true ∧
    commandCode (.reset ⟨[], List.replicate 7 true⟩) = some (0x3F, ⟨[], List.replicate 7 true⟩) ∧
    (⟨[], List.replicate 7 true⟩ : PortTail).wellFormed = true := by decide +kernel

theorem test_witness_PortChecksComeInOrder :
    commandCode (.nop ⟨List.replicate 31 0, []⟩) = some (0x00, ⟨List.replicate 31 0, []⟩) ∧
    (portFrameBits 0x00 ⟨List.replicate 31 0, []⟩).length ≤ 256 ∧
    ¬ (portFrameBits 0x00 ⟨List.replicate 31 0, [true]⟩).length ≤ 256 ∧ byteCount 0x00 = some (1, 32) ∧
    inRun.portOpen ∧ ¬ State.reset.portOpen ∧
    inRun.sc.station ∉ (Instr.commit ⟨[], []⟩).takenIn ∧ (at5 .config).sc.station ∈ (Instr.commit ⟨[], []⟩).takenIn ∧
    commandCode (.readId ⟨[0], []⟩) = some (0x01, ⟨[0], []⟩) ∧ byteCount 0x01 = some (1, 1) := by decide +kernel

/-- The states in which the port takes commands. -/
theorem test_witness_port_open : inRun.portOpen ∧ (at5 .config).portOpen ∧ (at5 .join).portOpen ∧
    (at5 .parked).portOpen ∧ (at5 .halt).portOpen ∧ (at5 .config).sc.station = .config ∧
    (at5 .parked).sc.station = .parked ∧ inRun.sc.station.takesPart = true := by decide

theorem test_witness_NopReturnsTheStatusWord : inRun.portOpen ∧ (List.replicate 31 (0 : Byte)).length ≤ 31 ∧
    31 < (List.replicate 32 (0 : Byte)).length := by decide +kernel

theorem test_witness_Reads_at_the_limits : 23 < (24 : Byte).toNat ∧ 15 < (16 : Byte).toNat ∧
    (BitVec.ofNat 8 (23 : SourceIndex).val).toNat = 23 ∧ (BitVec.ofNat 8 (15 : LineIndex).val).toNat = 15 := by decide

theorem test_witness_SetStation : (at5 .config).portOpen ∧ (1 : Byte) ≠ 0 ∧ (255 : Byte) ≠ 0 ∧
    ([0x08, 0x04] : List Byte).length ≠ 3 := by decide

theorem test_witness_SetLineAndSetRoute : ((15 : Byte).toNat < 16 ∧ (7 : Byte).toNat < 8 ∧ 15 < (16 : Byte).toNat ∧
      7 < (8 : Byte).toNat ∧ (23 : Byte).toNat < 24 ∧ 23 < (24 : Byte).toNat) ∧
    ((2 : Byte).toNat ≤ 2 ∧ (15 : Byte).toNat ≤ 15 ∧ (3 : Byte).toNat ≤ 3 ∧ ((0 : Byte) ≠ 0 ∨ (1 : Byte) ≠ 0)) ∧
    (¬ (3 : Byte).toNat ≤ 2 ∧ ¬ (16 : Byte).toNat ≤ 15 ∧ ¬ (4 : Byte).toNat ≤ 3) := by decide

theorem test_witness_Threshold : (16 : Byte).toNat ≤ 16 ∧ 16 < (17 : Byte).toNat ∧ (at5 .join).portOpen ∧
    (at5 .join).sc.station.takesPart = true := by decide

theorem test_witness_RaiseIsARequest :
    (inRun.portOpen ∧ inRun.sc.station.takesPart = true ∧ (inRun.route 16).enabled = true ∧
      (inRun.source 16).state = .idle ∧ inRun.st.ready = [] ++ [] ∧ inRun.readyWith 16 [] [] ∧
      (inRun.route 17).enabled = false ∧ 7 < (8 : Byte).toNat) ∧
    (∀ r ∈ [inState .offering, inState (.backoff 1), inState (.placed 9), inState (.withdrawing 9 .no),
        inState .ready, inState .failed],
      (withSource 16 r).portOpen ∧ (withSource 16 r).source 16 = r ∧ r.state ≠ .idle) ∧
    ((contending true).offerInHand 16 = true ∧ ((contending true).source 16).cancelPending = true ∧
      (contending true).portOpen) := by decide +kernel

theorem test_witness_CancelBySourceState :
    (∀ r ∈ [inState .idle, inState .ready, inState .offering, inState (.backoff 1), inState (.placed 9),
        inState (.withdrawing 9 .no), inState (.withdrawing 9 .acknowledged), inState (.withdrawing 9 .dropped),
        inState .failed],
      (withSource 16 r).portOpen ∧ (withSource 16 r).sc.station.takesPart = true ∧ (withSource 16 r).source 16 = r) ∧
    ((contending true).offerInHand 16 = true ∧ (withSource 16 (inState .ready)).offerInHand 16 = false) ∧
    (((withLine 0 inRun).route (sourceOf 0)).enabled = true ∧ ((withLine 0 inRun).setting 0).level = true ∧
      ((withLine 0 inRun).line 0).q = true ∧ (inRun.line 0).q = false ∧ 16 ≤ (16 : SourceIndex).val ∧
      23 < (24 : Byte).toNat) := by decide +kernel

theorem test_witness_CompleteFinishesTheTopEntry :
    inRun.svt.stack = [] ∧
    (∀ p ∈ [Phase.active false, .active true, .detached], (withEntry p).portOpen ∧
      (withEntry p).sc.station = .run ∧ (withEntry p).svt.stack = 0 :: [] ∧
      (withEntry p).svt.entry 0 = .occupied (held 2 3) p) ∧
    (held 2 3).tracked = true ∧ ((withEntry (.pending 0)).svt.entry 0).onStack = false ∧ 23 < (24 : Byte).toNat := by
  decide +kernel

theorem test_witness_HaltHoldsEverything : (at5 .halt).sc.station = .halt ∧
    (Instr.readId ⟨[], []⟩).forcesReset = false ∧ leaves (.readId ⟨[], []⟩) (at5 .halt) (fun _ => true) = true := by
  decide +kernel

theorem test_witness_SilentOutsideTheBusStates : (Instr.stationTick 0).ofBusOrTick = true ∧
    (at5 .halt).sc.station.takesPart = false ∧ (at5 .config).sc.station.takesPart = false ∧
    State.reset.sc.station.takesPart = false := by decide

/-! States in which the invariants hold -/

theorem pendingCount_withEntry : (withEntry (.pending 0)).svt.pendingCount = 1 := by decide +kernel

theorem stackRight_withEntry (w : Bool) : StackRight (withEntry (.active w)) where
  members := by
    intro h
    have hs : (withEntry (.active w)).svt.stack = [0] := rfl
    rw [hs, entry_withEntry]
    by_cases e : h = 0 <;> simp [e, Entry.onStack]
  once := by
    have hs : (withEntry (.active w)).svt.stack = [0] := rfl
    rw [hs]
    exact List.nodup_singleton 0
  depth := by
    have hs : (withEntry (.active w)).svt.stack = [0] := rfl
    simp [hs]
  nested := by
    have hs : (withEntry (.active w)).svt.stack = [0] := rfl
    rw [hs]
    exact List.pairwise_singleton _ _

theorem stackRight_pending : StackRight (withEntry (.pending 0)) where
  members := by
    intro h
    have hs : (withEntry (.pending 0)).svt.stack = [] := rfl
    rw [hs, entry_withEntry]
    by_cases e : h = 0 <;> simp [e, Entry.onStack]
  once := List.nodup_nil
  depth := Nat.zero_le _
  nested := List.Pairwise.nil

theorem arrivalsRight_withEntry : ArrivalsRight (withEntry (.pending 0)) where
  bounded := by
    intro h o p he
    rw [entry_withEntry] at he
    split at he
    · cases he
      rw [pendingCount_withEntry]
      exact Nat.one_pos
    · cases he
  once := by
    intro h j o o' p h1 h2
    rw [entry_withEntry] at h1 h2
    split at h1
    · split at h2
      · simp_all
      · cases h2
    · cases h1

theorem arrivalsRight_of_none (s : State) (h : ∀ h o p, s.svt.entry h ≠ .occupied o (.pending p)) : ArrivalsRight s where
  bounded := fun j o p he => absurd he (h j o p)
  once := fun j _ o _ p he _ => absurd he (h j o p)

/-- Entry 0, PENDING, is the best eligible one, and with an empty table there is none. -/
theorem test_witness_PeekAndTake :
    (StackRight (withEntry (.pending 0)) ∧ ArrivalsRight (withEntry (.pending 0)) ∧
      (withEntry (.pending 0)).svt.isBest 0 (held 2 3) 0 ∧ (withEntry (.pending 0)).portOpen ∧
      (withEntry (.pending 0)).sc.station = .run) ∧
    (StackRight (withEntry (.active false)) ∧ ArrivalsRight (withEntry (.active false)) ∧
      ¬ ∃ h o p, (withEntry (.active false)).svt.waits h o p) ∧
    ((at5 .config).sc.station = .config ∧ (at5 .join).sc.station = .join ∧ (at5 .halt).sc.station = .halt) := by
  have none_pending : ∀ h o p, (withEntry (.active false)).svt.entry h ≠ .occupied o (.pending p) := by
    intro h o p he
    rw [entry_withEntry] at he
    split at he <;> cases he
  refine ⟨⟨stackRight_pending, arrivalsRight_withEntry, ⟨⟨?_, ?_⟩, ?_⟩, by decide +kernel, by decide +kernel⟩,
    ⟨stackRight_withEntry false, arrivalsRight_of_none _ none_pending, ?_⟩, by decide +kernel⟩
  · rw [entry_withEntry, if_pos rfl]
  · exact ⟨by decide +kernel, by decide +kernel, Or.inl rfl⟩
  · intro j o p hj hne
    have := hj.1
    rw [entry_withEntry, if_neg hne] at this
    cases this
  · rintro ⟨h, o, p, hw⟩
    exact none_pending h o p hw.1

theorem source_withSource (k j : SourceIndex) (r : SourceRecord) :
    (withSource k r).source j = if j = k then r else SourceRecord.reset := by
  have e : inRun.source j = SourceRecord.reset := get_replicate SourceRecord.reset j
  have : (withSource k r).source j = (inRun.setSource k r).source j := rfl
  rw [this, State.source_setSource, e]

theorem noticesMatch_closing (n : Nat) (t : Option Nat) : NoticesMatch (closing n t) := by
  have he : ∀ h, (closing n t).svt.entry h = if h = 0 then .occupied (held 2 3) (.closing .completed) else .free :=
    entry_withEntry (.closing .completed)
  have hs : ∀ k, (closing n t).source k = SourceRecord.reset := fun k => get_replicate SourceRecord.reset k
  have hl : (closing n t).nl = [doneOf0 n t] := rfl
  constructor
  · rw [hl]; exact List.nodup_singleton _
  · intro h
    rw [he, hl]
    by_cases e : h = 0
    · subst e; simp [doneOf0, Notice.ref]
    · have : NoticeRef.done 0 ≠ .done h := fun hh => e (by injection hh with hh; exact hh.symm)
      simp [e, doneOf0, Notice.ref]
      exact fun hh => e hh.symm
  · intro k
    rw [hs, hl]
    simp [SourceRecord.reset, doneOf0, Notice.ref]
  · intro m hm h c hb
    rw [hl, List.mem_singleton] at hm
    subst hm
    injection hb with h1 h2
    subst h1 h2
    exact ⟨held 2 3, by rw [he, if_pos rfl], rfl, rfl, rfl, rfl, rfl⟩
  · intro m hm k hb
    rw [hl, List.mem_singleton] at hm
    subst hm
    cases hb
  · intro h
    rcases h with h | h <;> cases h

theorem noticesMatch_withdrawing (n : Nat) (t : Option Nat) : NoticesMatch (withdrawing n t) := by
  have he : ∀ h, (withdrawing n t).svt.entry h = .free := fun h => get_replicate Entry.free h
  have hs : ∀ k, (withdrawing n t).source k = if k = 0 then inState (.withdrawing 9 .no) else SourceRecord.reset :=
    fun k => source_withSource 0 k _
  have hl : (withdrawing n t).nl = [withdrawOf0 n t] := rfl
  constructor
  · rw [hl]; exact List.nodup_singleton _
  · intro h
    rw [he, hl]
    simp [withdrawOf0, Notice.ref]
  · intro k
    rw [hs, hl]
    by_cases e : k = 0
    · subst e; simp [withdrawOf0, Notice.ref, inState]
    · simp [e, withdrawOf0, Notice.ref, SourceRecord.reset]
      exact fun hh => e hh.symm
  · intro m hm h c hb
    rw [hl, List.mem_singleton] at hm
    subst hm
    cases hb
  · intro m hm k hb
    rw [hl, List.mem_singleton] at hm
    subst hm
    injection hb with h1
    subst h1
    exact ⟨by rw [hs, if_pos rfl]; rfl, rfl, by rw [hs, if_pos rfl]; rfl, rfl⟩
  · intro h
    rcases h with h | h <;> cases h

theorem test_witness_PeerHelloReleasesWhatIsHeld :
    ((following (.hello 9) (withdrawing 0 none)).spanEnd (span (.hello 9) true) = .good (.hello 9) ∧
      (9 : StationId) ≠ (following (.hello 9) (withdrawing 0 none)).sc.id ∧
      (following (.hello 9) (withdrawing 0 none)).pbe.role = .receiver) ∧
    NoticesMatch (following (.hello 9) (withdrawing 0 none)) ∧
    NoticesMatch (following (.hello 2) (closing 3 (some 2))) := by
  refine ⟨by decide +kernel, ?_, ?_⟩
  · exact ⟨(noticesMatch_withdrawing 0 none).1, (noticesMatch_withdrawing 0 none).2,
      (noticesMatch_withdrawing 0 none).3, (noticesMatch_withdrawing 0 none).4,
      (noticesMatch_withdrawing 0 none).5, (noticesMatch_withdrawing 0 none).6⟩
  · exact ⟨(noticesMatch_closing 3 (some 2)).1, (noticesMatch_closing 3 (some 2)).2,
      (noticesMatch_closing 3 (some 2)).3, (noticesMatch_closing 3 (some 2)).4, (noticesMatch_closing 3 (some 2)).5,
      (noticesMatch_closing 3 (some 2)).6⟩

/-- A source waits on the ready list. -/
def waiting : State := withSource 16 (inState .ready)

theorem records_waiting (k : SourceIndex) : SourceRecordRight waiting k := by
  have h : ∀ k, (waiting.source k).remaining.isSome = (waiting.isSpread k && (waiting.source k).state.keepsMask) ∧
      ((waiting.source k).cancelPending = true →
        (waiting.source k).state = .ready ∨ (waiting.source k).state = .offering) ∧
      ((waiting.source k).again = true → (waiting.source k).state ≠ .idle ∧ (waiting.source k).state ≠ .failed) ∧
      ((waiting.source k).state = .idle → (waiting.source k).retry = 0) ∧
      ((waiting.source k).state.isPlaced = true → waiting.isSpread k = false) ∧
      ((waiting.route k).enabled = false → (waiting.source k).state = .idle) := by decide +kernel
  obtain ⟨h1, h2, h3, h4, h5, h6⟩ := h k
  exact ⟨h1, h2, h3, h4, h5, h6⟩

theorem sourcesRight_waiting : SourcesRight waiting where
  records := records_waiting
  inHand := fun k f h => by cases h
  idleBeforeJoin := fun h => by rcases h with h | h <;> cases h

theorem readyListRight_waiting : ReadyListRight waiting where
  members := by decide +kernel
  once := by decide +kernel
  ordered := by decide +kernel
  emptyBeforeJoin := fun h => by rcases h with h | h <;> cases h

theorem storeInRange_inRun : StoreInRange inRun := by
  refine ⟨by decide +kernel, by decide +kernel, ?_⟩
  have : ∀ k, (inRun.route k).mode = .direct ∨ (inRun.route k).targetMask ≠ 0 := by decide +kernel
  exact this

theorem countersInRange_inRun : CountersInRange inRun where
  threshold := by decide +kernel
  idleCount := by decide +kernel
  integrationCount := by decide +kernel
  prescaler := by decide +kernel
  prescalerHeld := by decide +kernel
  debounce := by decide +kernel
  helloRetry := fun t h => by cases h
  backoff := fun k t h => by
    have idle : ∀ k, (inRun.source k).state = .idle := by decide +kernel
    rw [idle k] at h
    cases h
  attempts := fun n h => by cases h
  holdOff := fun n h => by cases h
  inputBits := by decide +kernel

theorem claimRight_accepting : ClaimRight (decided .accepting directTo5 inRun) where
  silent := by decide +kernel
  following := by decide +kernel
  answering := fun _ => ⟨directTo5, held 9 3, 0, by decide +kernel, by decide +kernel, by decide +kernel,
    by decide +kernel, by decide +kernel⟩

theorem claimRight_silent (p : Phase) : ClaimRight (withEntry p) where
  silent := fun _ => rfl
  following := fun h => absurd rfl h
  answering := fun h => by cases h

/-- For each invariant a state in which it, and what its statement assumes beside it, holds, and that steps. -/
theorem test_witness_invariants :
    (PinsFollowState waiting ∧ waiting.portOpen ∧ ∃ t, step waiting = .next t) ∧
    (ConflictMeansHalt (at5 .halt) ∧ ConflictMeansHalt inRun ∧ ∃ t, step inRun = .next t) ∧
    (StoreInRange inRun ∧ CountersInRange inRun) ∧
    (SourcesRight waiting ∧ ReadyListRight waiting) ∧
    (ClaimRight (decided .accepting directTo5 inRun) ∧
      ∃ t, step (decided .accepting directTo5 inRun) = .next t) ∧
    (ClaimRight (withEntry (.active true)) ∧ StackRight (withEntry (.active true)) ∧
      ∃ t, step (withEntry (.active true)) = .next t) ∧
    (ClaimRight (withEntry (.pending 0)) ∧ ArrivalsRight (withEntry (.pending 0)) ∧
      NoDuplicateEntries (withEntry (.pending 0))) ∧
    (ClaimRight (closing 0 none) ∧ NoticesMatch (closing 0 none) ∧ ∃ t, step (closing 0 none) = .next t) := by
  refine ⟨⟨⟨by decide +kernel, by decide +kernel, by decide +kernel, by decide +kernel⟩, by decide +kernel, _, rfl⟩,
    ⟨by unfold ConflictMeansHalt; decide +kernel, by unfold ConflictMeansHalt; decide +kernel, _, rfl⟩,
    ⟨storeInRange_inRun, countersInRange_inRun⟩, ⟨sourcesRight_waiting, readyListRight_waiting⟩,
    ⟨claimRight_accepting, _, rfl⟩, ⟨claimRight_silent _, stackRight_withEntry true, _, rfl⟩,
    ⟨claimRight_silent _, arrivalsRight_withEntry, noDuplicates_withEntry _ doneFrame⟩, ?_⟩
  exact ⟨⟨fun _ => rfl, fun h => absurd rfl h, fun h => by cases h⟩, noticesMatch_closing 0 none, _, rfl⟩

end Sys2Proof.Tests
end

section
/-! The statements of family 03: requests that the port makes of the soft sources (R53, R63). -/

namespace Sys2Proof.Machine

/-! A port command of whole bytes -/

/-- A command answers for its effect on the state before its frame where that effect and the clocking of the frame
commute (R153, R155). -/
theorem State.portCommand_answers {s u : State} (hu : u.portOpen) {code : Byte} {bs : List Byte}
    (ht : s.takeFrame code ⟨bs, []⟩ = .taken) {body : List Byte → State → Reply} {r : ResultCode} {data : List Byte}
    (hb : body bs (s.clockFrame (byteBits (code :: bs))) =
      { state := u.clockFrame (byteBits (code :: bs)), result := r, data := data }) :
    s.portCommand code ⟨bs, []⟩ body = u.answers (code :: bs) r data := by
  rw [State.portCommand_taken ht, portFrameBits_whole, hb]
  exact State.respond_clockFrame hu _ _ _ _

/-- Check 6 of Table 8-2: a frame of whole bytes that passes the checks before it is refused with STATE where the
station state does not take its code. -/
theorem State.takeFrame_state {s : State} (h : s.portOpen) {code : Byte} {bs : List Byte}
    (hc : isCommandCode code = true) (hf : byteCountFits code (bs.length + 1) = true) (hl : bs.length ≤ 31)
    (ha : admittedIn code s.sc.station = false) : s.takeFrame code ⟨bs, []⟩ = .refused .state := by
  have hlen : (portFrameBits code ⟨bs, []⟩).length ≤ 256 := by
    rw [portFrameBits_whole, byteBits_length, List.length_cons]; omega
  have h256 : ¬ (Config.inputLimit < (portFrameBits code ⟨bs, []⟩).length) := not_lt.mpr hlen
  simp [State.takeFrame, State.frameOfReset_eq_false h, h256, hc, hf, ha]

/-- The end of an event reads nothing that the clocking of a frame writes. -/
theorem State.settle_clockFrame (s : State) (bits : List Bool) :
    (s.clockFrame bits).settle = s.settle.clockFrame bits := rfl

/-! A request event (Table 4-2) -/

/-- The states in which a request event sets again on source k (R62, Table 4-2). -/
def State.requestSetsAgain (s : State) (k : SourceIndex) : Prop :=
  (s.source k).state = .offering ∨ (∃ n, (s.source k).state = .backoff n) ∨ (s.source k).state.isPlaced = true ∨
    ((s.source k).state = .ready ∧ s.offerInHand k = true ∧ (s.source k).cancelPending = true)

/-- An IDLE source takes a new offer and joins the ready list at the tail of its class (R60, R61). -/
theorem State.requestEvent_idle {s : State} {k : SourceIndex} {before after : List SourceIndex}
    (hi : (s.source k).state = .idle) (hl : s.st.ready = before ++ after) (hw : s.readyWith k before after) :
    s.requestEvent k = s.putSource k (s.newOffer k (s.source k).again) (before ++ k :: after) := by
  have hj : joinReady (fun j => (s.route j).cls) k s.st.ready = before ++ k :: after :=
    hl ▸ joinReady_eq (fun j => (s.route j).cls) k before after hw.1 hw.2
  have hm : (if s.isSpread k then some (s.route k).targetMask else none) =
      if (s.route k).mode = .spread then some (s.route k).targetMask else none := by
    simp [State.isSpread]
  simp only [State.requestEvent, hi, State.enterReady, hm]
  exact congrArg (s.putSource k (s.newOffer k (s.source k).again)) hj

theorem State.requestEvent_setsAgain {s : State} {k : SourceIndex} (h : s.requestSetsAgain k) :
    s.requestEvent k = s.putSource k { s.source k with again := true } s.st.ready := by
  rw [putSource_eq]
  obtain ho | ⟨n, hb⟩ | hp | ⟨hr, hh, hc⟩ := h
  · simp only [State.requestEvent, ho, State.setAgain]
  · simp only [State.requestEvent, hb, State.setAgain]
  · cases hs : (s.source k).state
    case placed => simp only [State.requestEvent, hs, State.setAgain]
    case withdrawing => simp only [State.requestEvent, hs, State.setAgain]
    all_goals simp [hs, SourceState.isPlaced] at hp
  · simp only [State.requestEvent, hr, hh, hc, Bool.and_self, if_true, State.setAgain]

/-- In READY otherwise and in FAILED a request event changes nothing. -/
theorem State.requestEvent_stands {s : State} {k : SourceIndex} (hi : (s.source k).state ≠ .idle)
    (h : ¬ s.requestSetsAgain k) : s.requestEvent k = s := by
  unfold State.requestSetsAgain at h
  cases hs : (s.source k).state
  case ready =>
    have hc : ¬ (s.offerInHand k && (s.source k).cancelPending) = true := by
      simpa [hs, SourceState.isPlaced] using h
    simp only [State.requestEvent, hs]
    exact if_neg hc
  case failed => simp only [State.requestEvent, hs]
  all_goals simp [hs, SourceState.isPlaced] at hi h

/-- A request event reads and writes nothing of the port. -/
theorem State.requestEvent_clockFrame (s : State) (bits : List Bool) (k : SourceIndex) :
    (s.clockFrame bits).requestEvent k = (s.requestEvent k).clockFrame bits := by
  have hs : (s.clockFrame bits).source k = s.source k := rfl
  have hh : (s.clockFrame bits).offerInHand k = s.offerInHand k := rfl
  cases hst : (s.source k).state
  case ready =>
    simp only [State.requestEvent, hs, hst, hh]
    split <;> rfl
  case failed => simp only [State.requestEvent, hs, hst]
  all_goals
    simp only [State.requestEvent, hs, hst]
    rfl

/-- The Local Port takes frames after a request event as before it. -/
theorem State.portOpen_settle_requestEvent {s : State} (h : s.portOpen) (k : SourceIndex) :
    (s.requestEvent k).settle.portOpen := by
  obtain ⟨hm, -⟩ := State.requestEvent_moved s k
  simpa [State.portOpen, hm.sc, hm.lp] using h

/-! RAISE (R53) -/

theorem State.takeFrame_raise {s : State} (h : s.portOpen) (ht : s.sc.station.takesPart = true) (v : Byte) :
    s.takeFrame 0x21 ⟨[v], []⟩ = .taken :=
  State.takeFrame_open h _ _ rfl rfl (by simp) ht

/-- RAISE of a soft source whose route is enabled delivers a request event to it. -/
theorem exec_raise_enabled {s : State} (h : s.portOpen) (ht : s.sc.station.takesPart = true) {v : Byte}
    (hv : v.toNat < 8) {k : SourceIndex} (hk : k.val = 16 + v.toNat) (he : (s.route k).enabled = true) :
    exec (.raise ⟨[v], []⟩) s = .next ((s.requestEvent k).settle.answers [0x21, v] .ok []) := by
  obtain rfl : k = ⟨16 + v.toNat, Nat.add_lt_add_left hv 16⟩ := Fin.ext hk
  refine congrArg Host.Outcome.next (State.portCommand_answers (State.portOpen_settle_requestEvent h _)
    (State.takeFrame_raise h ht v) ?_)
  rw [← State.settle_clockFrame, ← State.requestEvent_clockFrame]
  exact (dif_pos hv).trans (if_pos he)

/-- RAISE of a soft source whose route is disabled is refused with ROUTE. -/
theorem exec_raise_disabled {s : State} (h : s.portOpen) (ht : s.sc.station.takesPart = true) {v : Byte}
    (hv : v.toNat < 8) {k : SourceIndex} (hk : k.val = 16 + v.toNat) (he : (s.route k).enabled = false) :
    exec (.raise ⟨[v], []⟩) s = .next (s.answers [0x21, v] .route []) := by
  obtain rfl : k = ⟨16 + v.toNat, Nat.add_lt_add_left hv 16⟩ := Fin.ext hk
  refine congrArg Host.Outcome.next (State.portCommand_answers h (State.takeFrame_raise h ht v) ?_)
  exact (dif_pos hv).trans (if_neg (ne_true_of_eq_false he))

/-- RAISE of a number above 7 names no soft source and is refused with BADARG. -/
theorem exec_raise_badArg {s : State} (h : s.portOpen) (ht : s.sc.station.takesPart = true) {v : Byte}
    (hv : 7 < v.toNat) : exec (.raise ⟨[v], []⟩) s = .next (s.answers [0x21, v] .badArg []) := by
  refine congrArg Host.Outcome.next (State.portCommand_answers h (State.takeFrame_raise h ht v) ?_)
  exact dif_neg (not_lt.mpr hv)

/-- RAISE outside JOIN, RUN and PARKED is refused with STATE (Table 8-3). -/
theorem exec_raise_state {s : State} (h : s.portOpen) (ht : s.sc.station.takesPart = false) (v : Byte) :
    exec (.raise ⟨[v], []⟩) s = .next (s.answers [0x21, v] .state []) := by
  rw [exec_of_refused rfl (State.takeFrame_state h (code := 0x21) rfl rfl (by simp) ht), portFrameBits_whole]
  exact congrArg Host.Outcome.next (State.respond_clockFrame h _ _ _ _)

/-- Settles O42: RAISE is a request event at its soft source (Table 4-2) between the port's checks and its answer. -/
theorem raiseIsARequest : Obligations.RaiseIsARequest := by
  refine ⟨fun s i before after h ht => ?_, fun s h hst v => exec_raise_state h ?_ v⟩
  · have hi : (BitVec.ofNat 8 i.val).toNat = i.val := Nat.mod_eq_of_lt (by omega)
    have hlt : (BitVec.ofNat 8 i.val).toNat < 8 := hi.trans_lt i.isLt
    have hk : 16 + i.val = 16 + (BitVec.ofNat 8 i.val).toNat := by rw [hi]
    refine ⟨fun he hidle hl hw => ?_, fun he ha => ?_, fun he hidle ha => ?_, fun he => ?_, fun v hv => ?_⟩
    · rw [exec_raise_enabled h ht hlt hk he, State.requestEvent_idle hidle hl hw]
    · rw [exec_raise_enabled h ht hlt hk he, State.requestEvent_setsAgain ha]
    · rw [exec_raise_enabled h ht hlt hk he, State.requestEvent_stands hidle ha]
    · exact exec_raise_disabled h ht hlt hk he
    · exact exec_raise_badArg h ht hv
  · rcases hst with hst | hst <;> rw [hst] <;> rfl

end Sys2Proof.Machine
end

section
/-! The statements of family 04: what a DONE does to the source it matches (R73, R74, R141, R145), and CANCEL by the
state of its source (R49, R69, Table 4-3). -/

namespace Sys2Proof.Machine

/-! Entry to IDLE -/

/-- Where no request stands, a source that enters IDLE stays there: its record is cleared and it leaves the ready
list (R64). -/
theorem State.enterIdle_stays {s : State} {k : SourceIndex} (ha : (s.source k).again = false)
    (hl : s.levelAsks k = false) :
    s.enterIdle k = s.putSource k (s.idleRecord k) (s.st.ready.filter fun j => j != k) := by
  have hc : ((s.source k).again || s.levelAsks k) = false := by rw [ha, hl]; rfl
  exact if_neg (ne_true_of_eq_false hc)

/-- Entry to IDLE reads and writes nothing of what the station drives. -/
theorem State.enterIdle_drove (s : State) (driven : List Bool) (k : SourceIndex) :
    (s.drove driven).enterIdle k = (s.enterIdle k).drove driven := by
  simp only [State.enterIdle, apply_ite (State.drove · driven)]
  rfl

/-- Entry to IDLE reads and writes nothing of the port. -/
theorem State.enterIdle_clockFrame (s : State) (bits : List Bool) (k : SourceIndex) :
    (s.clockFrame bits).enterIdle k = (s.enterIdle k).clockFrame bits := by
  simp only [State.enterIdle, apply_ite (State.clockFrame · bits)]
  rfl

/-! A DONE at the Source Table (R73, R74) -/

/-- A DONE matches a PLACED or WITHDRAWING source by sender, source and generation (R73). -/
theorem State.doneMatches_iff (s : State) (x : StationId) (k : SourceIndex) (g : Generation) :
    s.doneMatches x k g = true ↔ (s.source k).generation = g ∧
      ((s.source k).state = .placed x ∨ ∃ w, (s.source k).state = .withdrawing x w) := by
  unfold State.doneMatches
  cases (s.source k).state <;> simp

/-- A DONE that matches takes the WITHDRAW notice of its source and ends the offer. -/
theorem State.doneDelivered_of_matches {s : State} {x : StationId} {k : SourceIndex} {g : Generation}
    (h : s.doneMatches x k g = true) : s.doneDelivered x k g = (s.removeNotice (.withdraw k)).enterIdle k := if_pos h

/-- A DONE that matches no source is ignored. -/
theorem State.doneDelivered_of_not_matches {s : State} {x : StationId} {k : SourceIndex} {g : Generation}
    (h : ¬ s.doneMatches x k g = true) : s.doneDelivered x k g = s := if_neg h

theorem State.doneDelivered_drove (s : State) (driven : List Bool) (x : StationId) (k : SourceIndex)
    (g : Generation) : (s.drove driven).doneDelivered x k g = (s.doneDelivered x k g).drove driven := by
  by_cases h : s.doneMatches x k g = true
  · rw [State.doneDelivered_of_matches h, State.doneDelivered_of_matches (s := s.drove driven) h,
      ← State.enterIdle_drove]
    rfl
  · rw [State.doneDelivered_of_not_matches h, State.doneDelivered_of_not_matches (s := s.drove driven) h]

/-! DONE_COMPLETION (R20, R21, R145) -/

/-- A DONE frame that this station receives from another: the addressee alone drives ACK, and its Source Table takes
the DONE (R145). -/
theorem exec_done_received {s : State} {samples : List Bool} (ack : Bool) {x a : StationId} {c : ServiceClass}
    {k : SourceIndex} {g : Generation} {o : DoneOutcome} (hg : s.spanEnd samples = .good (.done x c a k g o))
    (hr : s.pbe.role = .receiver) (hx : x ≠ s.sc.id) :
    exec (.doneCompletion samples ack) s =
      .next ((if a == s.sc.id then s.doneDelivered x k g else s).betweenFrames
        (s.spanDrive samples ++ [!(a == s.sc.id)])).settle := by
  have htwin : s.foreignTwin (.done x c a k g o) = false := by simp [State.foreignTwin, Frame.sender, hx]
  have hsent (d : List Bool) : (s.drove d).sentItem = none := by simp [State.sentItem, hr]
  show execDoneCompletion samples ack s = _
  simp only [execDoneCompletion, hg, htwin, hsent, State.doneDelivered_drove]
  cases a == s.sc.id <;> rfl

/-- The Notice List and the Service Table after an acknowledged DONE: the notice is gone and its entry FREE (R122,
R141). -/
theorem State.noticeAcknowledged_done {s : State} {n : Notice} {before after : List Notice} {h : Handle}
    {e c : DoneOutcome} {o : HeldOffer} (hs : s.nl = before ++ n :: after) (hm : ∀ m ∈ before ++ after, m.ref ≠ n.ref)
    (hb : n.body = .done h e) (hc : s.svt.entry h = .occupied o (.closing c)) :
    s.noticeAcknowledged n.ref = { s with nl := before ++ after, svt := s.svt.setEntry h .free } := by
  have hn : n.ref = .done h := by simp only [Notice.ref, hb]
  simp only [State.noticeAcknowledged, notice?_of_split hs hm, removeNotice_of_split hs hm]
  simp only [hn, State.ownerTakesEnd, State.freeClosing, hc]

/-- A DONE of the station to itself acknowledges itself, and the Source Table takes it in the same completion
(R141). -/
theorem exec_done_self {s : State} {samples : List Bool} (ack : Bool) {n : Notice} {before after : List Notice}
    {h : Handle} {e c : DoneOutcome} {o : HeldOffer} (hr : s.pbe.role = .sender)
    (hi : s.ts.inHand =
      some { item := .notice n.ref, frame := .done s.sc.id n.cls s.sc.id n.source n.generation e })
    (hg : s.spanEnd samples = .good (.done s.sc.id n.cls s.sc.id n.source n.generation e))
    (hs : s.nl = before ++ n :: after) (hm : ∀ m ∈ before ++ after, m.ref ≠ n.ref) (hb : n.body = .done h e)
    (hc : s.svt.entry h = .occupied o (.closing c)) :
    exec (.doneCompletion samples ack) s =
      .next (((({ s with nl := before ++ after, svt := s.svt.setEntry h .free } : State).doneDelivered s.sc.id n.source
        n.generation).betweenFrames (s.spanDrive samples ++ [false])).settle) := by
  have htwin : s.foreignTwin (.done s.sc.id n.cls s.sc.id n.source n.generation e) = false := by
    simp [State.foreignTwin, hr]
  have hsent (d : List Bool) : (s.drove d).sentItem = some (.notice n.ref) := by simp [State.sentItem, hr, hi]
  have hack (d : List Bool) : (s.drove d).noticeAcknowledged n.ref =
      ({ s with nl := before ++ after, svt := s.svt.setEntry h .free } : State).drove d :=
    State.noticeAcknowledged_done (s := s.drove d) hs hm hb hc
  show execDoneCompletion samples ack s = _
  simp only [execDoneCompletion, hg, htwin, hsent, beq_self_eq_true, Bool.true_or, if_true, State.reportNotice, hack,
    State.doneDelivered_drove]
  rfl

/-- Settles O25: the completion hands a DONE for this station to its Source Table, which ends the matching offer. -/
theorem doneEndsTheMatchingOffer : Obligations.DoneEndsTheMatchingOffer := by
  refine ⟨fun s samples ack x c k g o hg hr hx => ?_, fun s samples ack x a c k g o hg hr hx ha => ?_,
    fun s samples ack n f before after h e o c hr hi hg hs hm hb hf hc => ?_⟩
  · intro matching
    rw [exec_done_received ack hg hr hx, beq_self_eq_true, if_pos rfl]
    refine ⟨fun hd => ?_, fun hd => ?_⟩
    · rw [State.doneDelivered_of_matches ((State.doneMatches_iff s x k g).mpr hd)]
      rfl
    · rw [State.doneDelivered_of_not_matches (mt (State.doneMatches_iff s x k g).mp hd)]
      rfl
  · rw [exec_done_received ack hg hr hx, beq_eq_false_iff_ne.mpr ha, if_neg Bool.false_ne_true]
    rfl
  · subst hf
    intro k freed ends matching
    rw [exec_done_self ack hr hi hg hs hm hb hc]
    refine ⟨fun hd => ?_, fun hd => ?_⟩
    · rw [State.doneDelivered_of_matches ((State.doneMatches_iff freed s.sc.id k n.generation).mpr hd)]
      rfl
    · rw [State.doneDelivered_of_not_matches (mt (State.doneMatches_iff freed s.sc.id k n.generation).mp hd)]

/-! CANCEL at its line (R49) -/

theorem lineOf_sourceOf (n : LineIndex) : lineOf (sourceOf n) = some n := dif_pos n.isLt

theorem lineOf_soft {k : SourceIndex} (h : 16 ≤ k.val) : lineOf k = none := dif_neg (not_lt.mpr h)

/-- CANCEL disarms an enabled LEVEL line with q active. -/
theorem State.cancelDisarms_active {s : State} {k : SourceIndex} {n : LineIndex} (hn : lineOf k = some n)
    (h : ((s.route k).enabled && (s.setting n).level && (s.line n).q) = true) :
    s.cancelDisarms k = s.setLineState n { s.line n with armed := false } := by
  simp only [State.cancelDisarms, hn, h, if_true]

/-- CANCEL disarms no other line. -/
theorem State.cancelDisarms_stands {s : State} {k : SourceIndex} {n : LineIndex} (hn : lineOf k = some n)
    (h : ((s.route k).enabled && (s.setting n).level && (s.line n).q) = false) : s.cancelDisarms k = s := by
  simp only [State.cancelDisarms, hn, h]
  rfl

/-- A soft source has no line to disarm. -/
theorem State.cancelDisarms_soft {s : State} {k : SourceIndex} (hn : lineOf k = none) : s.cancelDisarms k = s := by
  simp only [State.cancelDisarms, hn]

/-- The state after the disarm of a CANCEL, with what the disarm leaves unchanged read off it. -/
def State.lineDisarmed (s : State) (k : SourceIndex) : State := { s with liu := (s.cancelDisarms k).liu }

/-- The disarm reaches the Line Input Unit alone. -/
theorem State.cancelDisarms_eq (s : State) (k : SourceIndex) : s.cancelDisarms k = s.lineDisarmed k := by
  unfold State.lineDisarmed State.cancelDisarms
  split
  · split <;> rfl
  · rfl

/-- The disarm reads and writes nothing of the port. -/
theorem State.cancelDisarms_clockFrame (s : State) (bits : List Bool) (k : SourceIndex) :
    (s.clockFrame bits).cancelDisarms k = (s.cancelDisarms k).clockFrame bits := by
  unfold State.cancelDisarms
  split
  · rw [apply_ite (State.clockFrame · bits)]
    rfl
  · rfl

/-- After the disarm the line of source k asks for no request, so the source stays in IDLE (R49, R50). -/
theorem State.levelAsks_cancelDisarms (s : State) (k : SourceIndex) : (s.cancelDisarms k).levelAsks k = false := by
  cases hn : lineOf k with
  | none => simp only [State.levelAsks, hn]
  | some n =>
    by_cases h : ((s.route k).enabled && (s.setting n).level && (s.line n).q) = true
    · rw [State.cancelDisarms_active hn h]
      simp [State.levelAsks, hn]
    · rw [State.cancelDisarms_stands hn (Bool.eq_false_iff.mpr h)]
      simp only [State.levelAsks, hn]
      exact Bool.eq_false_iff.mpr fun ha => h (by simp_all)

theorem putSource_setSource (s : State) (k : SourceIndex) (a b : SourceRecord) (ready : List SourceIndex) :
    (s.setSource k a).putSource k b ready = s.putSource k b ready := by
  simp [State.setSource, State.putSource]

/-! CANCEL at its source (R69, Table 4-3) -/

/-- The state in which CANCEL acts by source state: the line is disarmed and again is clear (R49, R69). -/
def State.cancelPrepared (s : State) (k : SourceIndex) : State :=
  (s.lineDisarmed k).setSource k { s.source k with again := false }

theorem State.cancelSource_eq (s : State) (k : SourceIndex) :
    s.cancelSource k = (s.cancelPrepared k).cancelByState k := by
  unfold State.cancelSource
  rw [State.cancelDisarms_eq s k]
  rfl

theorem State.source_cancelPrepared (s : State) (k : SourceIndex) :
    (s.cancelPrepared k).source k = { s.source k with again := false } := by
  rw [State.cancelPrepared, State.source_setSource, if_pos rfl]

theorem State.levelAsks_cancelPrepared (s : State) (k : SourceIndex) : (s.cancelPrepared k).levelAsks k = false := by
  have h := State.levelAsks_cancelDisarms s k
  rw [State.cancelDisarms_eq] at h
  exact h

/-- In IDLE, and in WITHDRAWING where the withdrawal is not dropped, CANCEL only disarms and clears again (R69). -/
theorem State.cancelSource_stands {s : State} {k : SourceIndex}
    (h : (s.source k).state = .idle ∨ ∃ x w, (s.source k).state = .withdrawing x w ∧ w ≠ .dropped) :
    s.cancelSource k = (s.lineDisarmed k).putSource k { s.source k with again := false } s.st.ready := by
  have hp : (s.cancelPrepared k).cancelByState k = s.cancelPrepared k := by
    obtain h | ⟨x, w, h, hw⟩ := h
    · simp only [State.cancelByState, State.source_cancelPrepared, h]
    · cases w
      case dropped => exact absurd rfl hw
      all_goals simp only [State.cancelByState, State.source_cancelPrepared, h]
  rw [State.cancelSource_eq, hp]
  rfl

/-- In OFFERING and in READY in hand CANCEL records cancel pending (R65, R69). -/
theorem State.cancelSource_pends {s : State} {k : SourceIndex}
    (h : (s.source k).state = .offering ∨ (s.source k).state = .ready ∧ s.offerInHand k = true) :
    s.cancelSource k = (s.lineDisarmed k).putSource k
      { s.source k with again := false, cancelPending := true } s.st.ready := by
  have hp : (s.cancelPrepared k).cancelByState k = (s.cancelPrepared k).setCancelPending k := by
    obtain h | ⟨h, hh⟩ := h
    · simp only [State.cancelByState, State.source_cancelPrepared, h]
    · have hh' : (s.cancelPrepared k).offerInHand k = true := hh
      simp only [State.cancelByState, State.source_cancelPrepared, h, hh', if_true]
  rw [State.cancelSource_eq, hp, State.setCancelPending, State.source_cancelPrepared]
  exact setSource_setSource _ _ _ _

/-- READY not in hand, BACKOFF and FAILED go IDLE and, the line disarmed and again clear, stay there (R49, R69). -/
theorem State.cancelSource_idles {s : State} {k : SourceIndex}
    (h : (s.source k).state = .ready ∧ s.offerInHand k = false ∨ (∃ n, (s.source k).state = .backoff n) ∨
      (s.source k).state = .failed) :
    s.cancelSource k = (s.lineDisarmed k).putSource k (s.idleRecord k) (s.st.ready.filter fun j => j != k) := by
  have hi : (s.cancelPrepared k).cancelByState k = (s.cancelPrepared k).enterIdle k := by
    obtain ⟨h, hh⟩ | ⟨n, h⟩ | h := h
    · have hh' : ¬ (s.cancelPrepared k).offerInHand k = true := ne_true_of_eq_false hh
      simp only [State.cancelByState, State.source_cancelPrepared, h, if_neg hh']
    · simp only [State.cancelByState, State.source_cancelPrepared, h]
    · simp only [State.cancelByState, State.source_cancelPrepared, h]
  have ha : ((s.cancelPrepared k).source k).again = false := by rw [State.source_cancelPrepared]
  rw [State.cancelSource_eq, hi, State.enterIdle_stays ha (State.levelAsks_cancelPrepared s k), State.idleRecord,
    State.source_cancelPrepared]
  exact putSource_setSource _ _ _ _ _

/-- PLACED enters WITHDRAWING, and a dropped withdrawal is sent anew, each with a fresh notice (R69, R75). -/
theorem State.cancelSource_withdraws {s : State} {k : SourceIndex} {x : StationId}
    (h : (s.source k).state = .placed x ∧ (s.source k).cancelPending = false ∨
      (s.source k).state = .withdrawing x .dropped) :
    s.cancelSource k = ((s.lineDisarmed k).queueNotice (s.withdrawNotice k x)).putSource k
      { s.source k with state := .withdrawing x .no, again := false } s.st.ready := by
  have hn : (s.cancelPrepared k).withdrawNotice k x = s.withdrawNotice k x := by
    rw [State.withdrawNotice, State.source_cancelPrepared]
    rfl
  have hw : (s.cancelPrepared k).cancelByState k = ((s.cancelPrepared k).setSource k
      { s.source k with state := .withdrawing x .no, again := false }).queueNotice (s.withdrawNotice k x) := by
    obtain ⟨h, hc⟩ | h := h
    · simp only [State.cancelByState, State.enterWithdrawing, State.source_cancelPrepared, h, hn, hc]
    · simp only [State.cancelByState, State.source_cancelPrepared, h, hn]
  rw [State.cancelSource_eq, hw, State.cancelPrepared, setSource_setSource]
  rfl

/-- CANCEL reads and writes nothing of the port. -/
theorem State.cancelByState_clockFrame (s : State) (bits : List Bool) (k : SourceIndex) :
    (s.clockFrame bits).cancelByState k = (s.cancelByState k).clockFrame bits := by
  have hs : (s.clockFrame bits).source k = s.source k := rfl
  have hh : (s.clockFrame bits).offerInHand k = s.offerInHand k := rfl
  cases hst : (s.source k).state
  case ready =>
    simp only [State.cancelByState, hs, hst, hh, State.enterIdle_clockFrame]
    split <;> rfl
  case withdrawing x w => simp only [State.cancelByState, hs, hst]; cases w <;> rfl
  case offering | placed => simp only [State.cancelByState, hs, hst]; rfl
  all_goals simp only [State.cancelByState, hs, hst, State.enterIdle_clockFrame]

theorem State.cancelSource_clockFrame (s : State) (bits : List Bool) (k : SourceIndex) :
    (s.clockFrame bits).cancelSource k = (s.cancelSource k).clockFrame bits := by
  unfold State.cancelSource
  rw [State.cancelDisarms_clockFrame]
  exact State.cancelByState_clockFrame
    ((s.cancelDisarms k).setSource k { (s.cancelDisarms k).source k with again := false }) bits k

/-- The Local Port takes frames after a CANCEL as before it. -/
theorem State.portOpen_settle_cancelSource {s : State} (h : s.portOpen) (k : SourceIndex) :
    (s.cancelSource k).settle.portOpen := by
  obtain ⟨hm, -⟩ := State.cancelByState_moved (s.cancelPrepared k) k
  rw [State.cancelSource_eq, State.portOpen, State.settle_sc, hm.sc]
  show ((s.cancelPrepared k).cancelByState k).lp.frame.ofReset = false ∧ _
  rw [hm.lp]
  exact h

/-! CANCEL at the port (Tables 8-2 and 8-3) -/

theorem State.takeFrame_cancel {s : State} (h : s.portOpen) (ht : s.sc.station.takesPart = true) (v : Byte) :
    s.takeFrame 0x22 ⟨[v], []⟩ = .taken :=
  State.takeFrame_open h _ _ rfl rfl (by simp) ht

/-- CANCEL of an index up to 23 acts on that source. -/
theorem exec_cancel {s : State} (h : s.portOpen) (ht : s.sc.station.takesPart = true) {v : Byte} {k : SourceIndex}
    (hk : v.toNat = k.val) :
    exec (.cancel ⟨[v], []⟩) s = .next ((s.cancelSource k).settle.answers [0x22, v] .ok []) := by
  have hv : v.toNat < 24 := hk ▸ k.isLt
  obtain rfl : k = ⟨v.toNat, hv⟩ := Fin.ext hk.symm
  refine congrArg Host.Outcome.next (State.portCommand_answers (State.portOpen_settle_cancelSource h _)
    (State.takeFrame_cancel h ht v) ?_)
  rw [← State.settle_clockFrame, ← State.cancelSource_clockFrame]
  exact dif_pos hv

/-- CANCEL of an index above 23 names no source and is refused with BADARG. -/
theorem exec_cancel_badArg {s : State} (h : s.portOpen) (ht : s.sc.station.takesPart = true) {v : Byte}
    (hv : 23 < v.toNat) : exec (.cancel ⟨[v], []⟩) s = .next (s.answers [0x22, v] .badArg []) := by
  refine congrArg Host.Outcome.next (State.portCommand_answers h (State.takeFrame_cancel h ht v) ?_)
  exact dif_neg (not_lt.mpr hv)

/-- CANCEL outside JOIN, RUN and PARKED is refused with STATE (Table 8-3). -/
theorem exec_cancel_state {s : State} (h : s.portOpen) (ht : s.sc.station.takesPart = false) (v : Byte) :
    exec (.cancel ⟨[v], []⟩) s = .next (s.answers [0x22, v] .state []) := by
  rw [exec_of_refused rfl (State.takeFrame_state h (code := 0x22) rfl rfl (by simp) ht), portFrameBits_whole]
  exact congrArg Host.Outcome.next (State.respond_clockFrame h _ _ _ _)

/-- Settles O43: CANCEL acts on the prepared source by its state (Table 4-3), between the port's checks and its
answer. -/
theorem cancelBySourceState : Obligations.CancelBySourceState := by
  refine ⟨fun s k h ht => ?_, fun s h ht => ⟨fun v hv => exec_cancel_badArg h ht hv, fun n he hl hq => ?_,
    fun n hn => ?_, fun k hk => State.cancelDisarms_soft (lineOf_soft hk)⟩, fun s h hst v => exec_cancel_state h ?_ v⟩
  · have hk : (BitVec.ofNat 8 k.val).toNat = k.val := Nat.mod_eq_of_lt (by omega)
    intro r liu done leaves notice
    have hdone {r' : SourceRecord} {ready : List SourceIndex} {nl : List Notice}
        (hu : s.cancelSource k = ({ s with liu := liu, nl := nl } : State).putSource k r' ready) :
        done r' ready nl := by
      show exec _ s = _
      rw [exec_cancel h ht hk, hu]
    split
    next hs => exact hdone (State.cancelSource_stands (.inl hs))
    next hs =>
      split
      next hh => exact hdone (State.cancelSource_pends (.inr ⟨hs, hh⟩))
      next hh => exact hdone (State.cancelSource_idles (.inl ⟨hs, Bool.eq_false_iff.mpr hh⟩))
    next hs => exact hdone (State.cancelSource_pends (.inl hs))
    next n hs => exact hdone (State.cancelSource_idles (.inr (.inl ⟨n, hs⟩)))
    next x hs => exact fun hc => hdone (State.cancelSource_withdraws (.inl ⟨hs, hc⟩))
    next x hs => exact hdone (State.cancelSource_withdraws (.inr hs))
    next x w hw hs => exact hdone (State.cancelSource_stands (.inr ⟨x, w, hs, hw⟩))
    next hs => exact hdone (State.cancelSource_idles (.inr (.inr hs)))
  · exact State.cancelDisarms_active (lineOf_sourceOf n) (by rw [he, hl, hq]; rfl)
  · refine State.cancelDisarms_stands (lineOf_sourceOf n) ?_
    obtain hn | hn | hn := hn <;> simp [hn]
  · obtain hst | hst := hst <;> rw [hst] <;> rfl

end Sys2Proof.Machine
end

section
/-! The statements of family 05: the decision on an offer frame (R85 to R90, R93). -/

namespace Sys2Proof.Machine

/-! The claim word (R93) -/

/-- The three fields of the claim word as one number, the load most significant. A load takes no more than its six
bits keep, so the equation needs no bound on it. -/
theorem claimWord_eq_ofNat (load : Nat) (id p : StationId) :
    claimWord load id p = BitVec.ofNat 14 (256 * load + 16 * (id - p - 1).toNat + id.toNat) := by
  have hrank := (id - p - 1).isLt
  have hid := id.isLt
  apply BitVec.eq_of_toNat_eq
  rw [claimWord, claimRank, BitVec.toNat_append, BitVec.toNat_append, ← Nat.shiftLeft_add_eq_or_of_lt hid,
    ← Nat.shiftLeft_add_eq_or_of_lt hrank, Nat.shiftLeft_eq, Nat.shiftLeft_eq, BitVec.toNat_ofNat, BitVec.toNat_ofNat]
  omega

/-! The decision at the Claim Unit (R85, R86, R90) -/

/-- A station that may not serve the offer finds no handle to reserve. -/
theorem State.eligibleHandle_eq_none {s : State} {f : Frame} {o : HeldOffer} (ho : f.offer = some o)
    (hm : ¬ s.mayServe f o) : s.eligibleHandle f = none :=
  Option.eq_none_iff_forall_ne_some.mpr fun _ hh => hm ((State.eligibleHandle_eq_some ho).mp hh).1

/-- Without a handle to reserve the station declines, and the claim state stays as it was. -/
theorem State.takeDecision_declines {s : State} {f : Frame} (hh : s.eligibleHandle f = none) :
    s.takeDecision f = { s with cu := { s.cu with reservation := none, role := .declined } } := by
  simp only [State.takeDecision, hh]

/-- A station that can reserve a handle for a POOL offer bids its claim word. -/
theorem State.takeDecision_claims {s : State} {x p : StationId} {c : ServiceClass} {m : StationMask}
    {k : SourceIndex} {g : Generation} {v : Byte} {r : Bool} {h : Handle}
    (hh : s.eligibleHandle (.pool x c m p k g v r) = some h) :
    s.takeDecision (.pool x c m p k g v r) = { s with
      cu := { s.cu with reservation := some h, role := .claiming (claimWord s.svt.load s.sc.id p) },
      pbe := { s.pbe with claim := .claiming } } := by
  simp only [State.takeDecision, hh, State.eligibleRole]

/-- An eligible station answers an offer of another kind than POOL for itself alone. -/
theorem State.eligibleRole_eq_accepting (s : State) {f : Frame} {o : HeldOffer} (ho : f.offer = some o)
    (hk : f.kind ≠ .pool) : s.eligibleRole f = .accepting := by
  cases f with
  | hello | done | withdraw => cases ho
  | direct | spread => rfl
  | pool => exact absurd rfl hk

theorem State.takeDecision_accepts {s : State} {f : Frame} {o : HeldOffer} {h : Handle} (ho : f.offer = some o)
    (hk : f.kind ≠ .pool) (hh : s.eligibleHandle f = some h) :
    s.takeDecision f = { s with
      cu := { s.cu with reservation := some h, role := .accepting },
      pbe := { s.pbe with claim := .notClaiming } } := by
  simp only [State.takeDecision, hh, s.eligibleRole_eq_accepting ho hk]

/-- The Claim Unit reads and writes nothing of what the station drives. -/
theorem State.takeDecision_drove (s : State) (driven : List Bool) (f : Frame) :
    (s.drove driven).takeDecision f = (s.takeDecision f).drove driven := by
  have hh : (s.drove driven).eligibleHandle f = s.eligibleHandle f := rfl
  have hr : (s.drove driven).eligibleRole f = s.eligibleRole f := by cases f <;> rfl
  simp only [State.takeDecision, hh, hr]
  cases s.eligibleHandle f <;> rfl

/-! DECISION -/

/-- At the end of the ERR bit of a good offer frame the Claim Unit decides, and the span joins the frame's bits. -/
theorem exec_decision {s : State} {samples : List Bool} {f : Frame} {o : HeldOffer}
    (hg : s.spanEnd samples = .good f) (ho : f.offer = some o) :
    exec (.decision samples) s =
      .next { (s.takeDecision f).drove (s.spanDrive samples) with
        pbe := { (s.takeDecision f).pbe with current := s.pbe.current ++ samples, driving := false } } := by
  have hc : (s.takeDecision f).pbe.current = s.pbe.current := by
    unfold State.takeDecision
    cases s.eligibleHandle f <;> rfl
  show execDecision samples s = _
  simp only [execDecision, hg, ho, Option.isSome_some, if_true, State.takeDecision_drove, State.drove_pbe, hc]

/-- Settles O20. What is reserved turns on `State.eligibleHandle_eq_some`: a handle is found exactly where the five
conditions of R86 hold, and it is the lowest FREE one. -/
theorem decisionReservesOrDeclines : Obligations.DecisionReservesOrDeclines := by
  intro s samples f o hg ho decides
  refine ⟨fun hm => ?_, fun hm h hfree hlow => ?_⟩
  · rw [exec_decision hg ho, State.takeDecision_declines (State.eligibleHandle_eq_none ho hm)]
    rfl
  · have hh : s.eligibleHandle f = some h := (State.eligibleHandle_eq_some ho).mpr ⟨hm, hfree, hlow⟩
    refine ⟨fun x c m p k g v r hf => ?_, fun hk => ?_⟩
    · subst hf
      rw [exec_decision hg ho, State.takeDecision_claims hh, claimWord_eq_ofNat]
      rfl
    · rw [exec_decision hg ho, State.takeDecision_accepts ho hk hh]
      rfl

end Sys2Proof.Machine
end

section
/-! The statements of family 06: the reads of the run state (R34, R58, R130, R131, R162), and the Service Table at
PEEK, TAKE, COMPLETE and COMPLETE_ENTRY (R111 to R121). -/

namespace Sys2Proof.Machine

/-! Packed bytes as numbers (10.3, 10.5) -/

/-- A field above the `p` low positions beside a number that fits in these. -/
theorem ofNat_or_ofNat {p a n : Nat} (h : n < 2 ^ p) :
    BitVec.ofNat 8 (2 ^ p * a) ||| BitVec.ofNat 8 n = BitVec.ofNat 8 (2 ^ p * a + n) := by
  rw [← BitVec.ofNat_or, Nat.mul_comm, ← Nat.shiftLeft_eq, ← Nat.shiftLeft_add_eq_or_of_lt h]

theorem bitAt_eq_ofNat (p : Nat) (b : Bool) : bitAt p b = BitVec.ofNat 8 (2 ^ p * b.toNat) := by
  rw [bitAt, Nat.shiftLeft_eq, Nat.mul_comm]

/-- A flag above a number that fits in the positions below it. -/
theorem bitAt_or_ofNat {p n : Nat} (b : Bool) (h : n < 2 ^ p) :
    bitAt p b ||| BitVec.ofNat 8 n = BitVec.ofNat 8 (2 ^ p * b.toNat + n) := by
  rw [bitAt_eq_ofNat, ofNat_or_ofNat h]

/-- Two flags above a code of three bits. -/
theorem bitAt_or_bitAt_or_ofNat (a b : Bool) {n : Nat} (h : n < 8) :
    bitAt 4 a ||| (bitAt 3 b ||| BitVec.ofNat 8 n) = BitVec.ofNat 8 (16 * a.toNat + (8 * b.toNat + n)) := by
  have hb := b.toNat_le
  exact (congrArg (bitAt 4 a ||| ·) (bitAt_or_ofNat b h)).trans (bitAt_or_ofNat a (by omega))

theorem nibbles_eq_ofNat (hi lo : BitVec 4) : nibbles hi lo = BitVec.ofNat 8 (16 * hi.toNat + lo.toNat) := by
  have hlo := lo.isLt
  apply BitVec.eq_of_toNat_eq
  rw [nibbles, BitVec.toNat_append, ← Nat.shiftLeft_add_eq_or_of_lt hlo, Nat.shiftLeft_eq, BitVec.toNat_ofNat]
  omega

theorem maskBytes_eq_asBytes (m : StationMask) : maskBytes m = asBytes [m.toNat / 256, m.toNat % 256] := by
  have hhi : m.extractLsb' 8 8 = BitVec.ofNat 8 (m.toNat / 256) := by
    apply BitVec.eq_of_toNat_eq
    rw [BitVec.extractLsb'_toNat, Nat.shiftRight_eq_div_pow, BitVec.toNat_ofNat]
  have hlo : m.extractLsb' 0 8 = BitVec.ofNat 8 (m.toNat % 256) := by
    apply BitVec.eq_of_toNat_eq
    rw [BitVec.extractLsb'_toNat, Nat.shiftRight_zero, BitVec.toNat_ofNat, Nat.mod_mod]
  rw [maskBytes, hhi, hlo]
  rfl

/-! The layouts of Tables 10-10 to 10-14 -/

/-- The flags and the state code in the first byte of the status word. -/
theorem stationByte_eq_ofNat (a b : Bool) (st : StationState) :
    bitAt 4 a ||| bitAt 3 b ||| st.code = BitVec.ofNat 8 (16 * a.toNat + 8 * b.toNat +
      match st with | .reset => 0 | .config => 1 | .join => 2 | .run => 3 | .parked => 4 | .halt => 5) := by
  rw [BitVec.or_assoc, Nat.add_assoc]
  cases st <;> exact bitAt_or_bitAt_or_ofNat a b (by decide)

/-- The station ID, SRQ# and the alert event set in the second byte of the status word. -/
theorem alertByte_eq_ofNat (id : StationId) (srq : Bool) (a : Alerts) :
    nibbles id 0 ||| bitAt 3 srq ||| a.byte = BitVec.ofNat 8
      (16 * id.toNat + 8 * srq.toNat + 4 * a.fail.toNat + 2 * a.drop.toNat + a.conflict.toNat) := by
  have hsrq := srq.toNat_le
  have hfail := a.fail.toNat_le
  have hdrop := a.drop.toNat_le
  have hconflict := a.conflict.toNat_le
  have hid : nibbles id 0 = BitVec.ofNat 8 (2 ^ 4 * id.toNat) := nibbles_eq_ofNat id 0
  have hlow : bitAt 0 a.conflict = BitVec.ofNat 8 a.conflict.toNat := rfl
  rw [Alerts.byte, hid, hlow]
  simp (disch := omega) only [BitVec.or_assoc, bitAt_or_ofNat]
  rw [ofNat_or_ofNat (by omega)]
  simp only [Nat.add_assoc, Nat.reducePow]

theorem State.statusWord_eq_asBytes (s : State) : s.statusWord = asBytes s.statusLayout := by
  simp only [State.statusWord, stationByte_eq_ofNat, alertByte_eq_ofNat]
  rfl

/-- The bytes of Table 10-12 from the values of their fields. -/
theorem sourceBytes_eq_asBytes (k timer sent : Nat) (running masked held cancel again : Bool) {code : Nat}
    (hc : code < 8) (g : Generation) (retry : Byte) (x : StationId) (m : StationMask) :
    [ countByte k,
      bitAt 7 running ||| bitAt 6 masked ||| bitAt 5 held ||| bitAt 4 cancel ||| bitAt 3 again ||| BitVec.ofNat 8 code,
      BitVec.ofNat 8 (16 * sent) ||| g.setWidth 8, retry, x.setWidth 8, countByte timer ] ++ maskBytes m =
    asBytes [ k,
      128 * running.toNat + 64 * masked.toNat + 32 * held.toNat + 16 * cancel.toNat + 8 * again.toNat + code,
      16 * sent + g.toNat, retry.toNat, x.toNat, timer, m.toNat / 256, m.toNat % 256 ] := by
  have hmasked := masked.toNat_le
  have hheld := held.toNat_le
  have hcancel := cancel.toNat_le
  have hagain := again.toNat_le
  have hflags : bitAt 7 running ||| bitAt 6 masked ||| bitAt 5 held ||| bitAt 4 cancel ||| bitAt 3 again |||
      BitVec.ofNat 8 code = BitVec.ofNat 8
        (128 * running.toNat + 64 * masked.toNat + 32 * held.toNat + 16 * cancel.toNat + 8 * again.toNat + code) := by
    simp (disch := omega) only [BitVec.or_assoc, bitAt_or_ofNat, Nat.add_assoc, Nat.reducePow]
  have hsent : BitVec.ofNat 8 (16 * sent) ||| g.setWidth 8 = BitVec.ofNat 8 (16 * sent + g.toNat) := by
    rw [← BitVec.ofNat_toNat]
    exact ofNat_or_ofNat g.isLt
  simp [hflags, hsent, maskBytes_eq_asBytes, asBytes, countByte]

theorem SourceRecord.bytes_eq_asBytes (k : SourceIndex) (r : SourceRecord) : r.bytes k = asBytes (r.layout k) := by
  obtain ⟨state, g, retry, again, cancel, mask⟩ := r
  have fields (running held : Bool) {code : Nat} (hc : code < 8) (sent timer : Nat) (x : StationId) :=
    sourceBytes_eq_asBytes k.val timer sent running mask.isSome held cancel again hc g retry x (mask.getD 0)
  cases state with
  | idle => exact fields false false (code := 0) (by decide) 0 0 0
  | ready => exact fields false false (code := 1) (by decide) 0 0 0
  | offering => exact fields false false (code := 2) (by decide) 0 0 0
  | backoff t => exact fields true false (code := 3) (by decide) 0 t 0
  | placed x => exact fields false true (code := 4) (by decide) 0 0 x
  | withdrawing x w =>
    cases w with
    | no => exact fields false true (code := 5) (by decide) 1 0 x
    | acknowledged => exact fields false true (code := 5) (by decide) 2 0 x
    | dropped => exact fields false true (code := 5) (by decide) 3 0 x
  | failed => exact fields false false (code := 6) (by decide) 0 0 0

/-- The bytes of Table 10-13 from the values of their fields. -/
theorem entryBytes_eq_asBytes (h arrival : Nat) (o : HeldOffer) {code high : Nat} (hc : code < 8) :
    [ countByte h, bitAt 4 o.reentrant ||| bitAt 3 o.tracked ||| BitVec.ofNat 8 (32 * high + code),
      nibbles o.origin o.generation, countByte o.source.val, o.cls.setWidth 8, o.vector, countByte arrival ] =
    asBytes [ h, 32 * high + code + 16 * o.reentrant.toNat + 8 * o.tracked.toNat,
      16 * o.origin.toNat + o.generation.toNat, o.source.val, o.cls.toNat, o.vector.toNat, arrival ] := by
  have hre := o.reentrant.toNat_le
  have htr := o.tracked.toNat_le
  have hflags : bitAt 4 o.reentrant ||| bitAt 3 o.tracked ||| BitVec.ofNat 8 (32 * high + code) =
      BitVec.ofNat 8 (32 * high + code + 16 * o.reentrant.toNat + 8 * o.tracked.toNat) := by
    have hphase : BitVec.ofNat 8 (32 * high + code) = BitVec.ofNat 8 code ||| BitVec.ofNat 8 (2 ^ 5 * high) := by
      rw [BitVec.or_comm]
      exact (ofNat_or_ofNat (p := 5) (by omega)).symm
    rw [hphase, ← BitVec.or_assoc, BitVec.or_assoc (bitAt 4 _), bitAt_or_bitAt_or_ofNat _ _ hc, BitVec.or_comm,
      ofNat_or_ofNat (p := 5) (by omega)]
    congr 1
    omega
  simp [hflags, nibbles_eq_ofNat, asBytes, countByte]

theorem Entry.bytes_eq_asBytes (h : Handle) (e : Entry) : e.bytes h = asBytes (e.layout h) := by
  rcases e with _ | ⟨o, p⟩
  · rfl
  have fields {high code : Nat} (hc : code < 8) (arrival : Nat) :=
    entryBytes_eq_asBytes h.val arrival o (high := high) hc
  cases p with
  | pending n => exact fields (high := 0) (code := 1) (by decide) n
  | active w => cases w with
    | false => exact fields (high := 0) (code := 2) (by decide) 0
    | true => exact fields (high := 1) (code := 2) (by decide) 0
  | detached => exact fields (high := 0) (code := 3) (by decide) 0
  | closing c => cases c with
    | completed => exact fields (high := 0) (code := 4) (by decide) 0
    | withdrawn => exact fields (high := 2) (code := 4) (by decide) 0

theorem Entry.slot_eq_asBytes (h : Handle) (e : Entry) : e.slot h = asBytes (e.slotLayout h) := by
  rcases e with _ | ⟨o, p⟩
  · rfl
  cases p with
  | pending => simp [Entry.slot, Entry.slotLayout, asBytes, countByte]
  | closing => simp [Entry.slot, Entry.slotLayout, asBytes, countByte]
  | active w =>
    have hflag := bitAt_or_ofNat w (p := 6) (n := h.val) (by omega)
    simp [Entry.slot, Entry.slotLayout, asBytes, countByte, hflag]
  | detached =>
    have hflag := bitAt_or_ofNat true (p := 7) (n := h.val) (by omega)
    simp [Entry.slot, Entry.slotLayout, asBytes, countByte, hflag]

theorem ServiceTable.stackBytes_eq_asBytes (t : ServiceTable) :
    t.stackBytes = asBytes ([t.stack.length] ++ (t.stack.reverse.flatMap fun h => (t.entry h).slotLayout h)
      ++ List.replicate (2 * (8 - t.stack.length)) 255) := by
  simp only [ServiceTable.stackBytes, Entry.slot_eq_asBytes, asBytes, List.map_append, List.map_flatMap,
    List.map_replicate]
  rfl

/-! Sets of sources (10.5) -/

theorem getLsbD_bitAt (p i : Nat) (b : Bool) : (bitAt p b).getLsbD i = (decide (i = p ∧ i < 8) && b) := by
  rw [bitAt, BitVec.getLsbD_ofNat, Nat.testBit_shiftLeft, Nat.testBit_bool_toNat]
  grind

/-- The byte of a set of sources that holds the eight from `base` on. -/
def sourceSetByte (p : SourceIndex → Bool) (base : Nat) : Byte :=
  allSources.foldl (fun b k => if base ≤ k.val && k.val < base + 8 then b ||| bitAt (k.val - base) (p k) else b) 0

theorem sourceSetBytes_eq (p : SourceIndex → Bool) :
    sourceSetBytes p = [sourceSetByte p 16, sourceSetByte p 8, sourceSetByte p 0] := rfl

/-- A bit of a byte that is built up over a list is set where a member of the list sets it. -/
theorem getLsbD_foldl_or (c : SourceIndex → Bool) (x : SourceIndex → Byte) (l : List SourceIndex) (b : Byte)
    (i : Nat) : (l.foldl (fun b k => if c k then b ||| x k else b) b).getLsbD i = true ↔
      b.getLsbD i = true ∨ ∃ k ∈ l, c k = true ∧ (x k).getLsbD i = true := by
  induction l generalizing b with
  | nil => simp
  | cons k l ih =>
    rw [List.foldl_cons, ih]
    by_cases hc : c k = true <;> simp [hc, or_assoc]

theorem getLsbD_sourceSetByte (p : SourceIndex → Bool) {base i : Nat} {k : SourceIndex} (hi : i < 8)
    (hk : k.val = base + i) : (sourceSetByte p base).getLsbD i = true ↔ p k = true := by
  rw [sourceSetByte, getLsbD_foldl_or (fun k => base ≤ k.val && k.val < base + 8)]
  simp only [getLsbD_bitAt, allSources, List.mem_finRange]
  constructor
  · rintro (h0 | ⟨j, -, hj, hp⟩)
    · simp at h0
    · simp at hj hp
      obtain rfl : j = k := Fin.ext (by omega)
      exact hp.2
  · intro hp
    refine .inr ⟨k, trivial, ?_, ?_⟩
    · simp; omega
    · simp [hp]; omega

/-- The three bytes of a set of sources hold one bit for each source (Table 10-9). -/
theorem packsSources_sourceSetBytes (p : SourceIndex → Bool) :
    packsSources (sourceSetBytes p) (fun k => p k = true) := by
  refine ⟨rfl, fun k => ?_⟩
  rw [sourceSetBytes_eq]
  have hbyte : k.val / 8 = 0 ∨ k.val / 8 = 1 ∨ k.val / 8 = 2 := by omega
  have hi : k.val % 8 < 8 := Nat.mod_lt _ (by decide)
  obtain h | h | h := hbyte <;>
    simp only [h, Nat.reduceSub, List.getD_cons_succ, List.getD_cons_zero]
  · exact getLsbD_sourceSetByte p (base := 0) hi (by omega)
  · exact getLsbD_sourceSetByte p (base := 8) hi (by omega)
  · exact getLsbD_sourceSetByte p (base := 16) hi (by omega)

theorem State.failedSet_packs (s : State) : packsSources s.failedSet (fun k => (s.source k).state = .failed) := by
  obtain ⟨hlen, hbits⟩ := packsSources_sourceSetBytes fun k => (s.source k).state == .failed
  exact ⟨hlen, fun k => (hbits k).trans beq_iff_eq⟩

theorem State.droppedSet_packs (s : State) :
    packsSources s.droppedSet (fun k => ∃ x, (s.source k).state = .withdrawing x .dropped) := by
  obtain ⟨hlen, hbits⟩ := packsSources_sourceSetBytes fun k => match (s.source k).state with
    | .withdrawing _ .dropped => true
    | _ => false
  refine ⟨hlen, fun k => (hbits k).trans ?_⟩
  dsimp only
  cases (s.source k).state with
  | withdrawing x w => cases w <;> simp
  | _ => simp

/-! A command that reads (R155, R163) -/

/-- Outside RESET the station takes a read in every state (Table 8-3). -/
theorem State.takeFrame_read {s : State} (h : s.portOpen) (code : Byte) (bs : List Byte)
    (hc : isCommandCode code = true) (hf : byteCountFits code (bs.length + 1) = true) (hl : bs.length ≤ 31)
    (ha : admittedIn code s.sc.station = (s.sc.station != .reset)) : s.takeFrame code ⟨bs, []⟩ = .taken :=
  State.takeFrame_open h code bs hc hf hl (ha.trans (bne_iff_ne.mpr h.2))

theorem exec_readStatus {s : State} (h : s.portOpen) : exec (.readStatus ⟨[], []⟩) s =
    .next (s.answers [0x02] .ok (asBytes s.statusLayout ++ s.failedSet ++ s.droppedSet)) := by
  rw [← State.statusWord_eq_asBytes]
  exact congrArg Host.Outcome.next
    (State.portCommand_answers h (State.takeFrame_read h 0x02 [] rfl rfl (by simp) rfl) rfl)

theorem exec_readSource {s : State} (h : s.portOpen) {v : Byte} {k : SourceIndex} (hk : v.toNat = k.val) :
    exec (.readSource ⟨[v], []⟩) s = .next (s.answers [0x06, v] .ok (asBytes ((s.source k).layout k))) := by
  have hv : v.toNat < 24 := hk ▸ k.isLt
  obtain rfl : k = ⟨v.toNat, hv⟩ := Fin.ext hk.symm
  rw [← SourceRecord.bytes_eq_asBytes]
  exact congrArg Host.Outcome.next
    (State.portCommand_answers h (State.takeFrame_read h 0x06 [v] rfl rfl (by simp) rfl) (dif_pos hv))

theorem exec_readSource_badArg {s : State} (h : s.portOpen) {v : Byte} (hv : 23 < v.toNat) :
    exec (.readSource ⟨[v], []⟩) s = .next (s.answers [0x06, v] .badArg []) :=
  congrArg Host.Outcome.next
    (State.portCommand_answers h (State.takeFrame_read h 0x06 [v] rfl rfl (by simp) rfl) (dif_neg (not_lt.mpr hv)))

theorem exec_readEntry {s : State} (h : s.portOpen) {v : Byte} {e : Handle} (he : v.toNat = e.val) :
    exec (.readEntry ⟨[v], []⟩) s = .next (s.answers [0x07, v] .ok (asBytes ((s.svt.entry e).layout e))) := by
  have hv : v.toNat < 24 := he ▸ e.isLt
  obtain rfl : e = ⟨v.toNat, hv⟩ := Fin.ext he.symm
  rw [← Entry.bytes_eq_asBytes]
  exact congrArg Host.Outcome.next
    (State.portCommand_answers h (State.takeFrame_read h 0x07 [v] rfl rfl (by simp) rfl) (dif_pos hv))

theorem exec_readEntry_badArg {s : State} (h : s.portOpen) {v : Byte} (hv : 23 < v.toNat) :
    exec (.readEntry ⟨[v], []⟩) s = .next (s.answers [0x07, v] .badArg []) :=
  congrArg Host.Outcome.next
    (State.portCommand_answers h (State.takeFrame_read h 0x07 [v] rfl rfl (by simp) rfl) (dif_neg (not_lt.mpr hv)))

/-- Settles O36: each read answers with its record in the layout of its table, on the state as it stands. -/
theorem readsOfRunState : Obligations.ReadsOfRunState := by
  have hbyte (k : Fin 24) : (BitVec.ofNat 8 k.val).toNat = k.val := Nat.mod_eq_of_lt (by omega)
  refine ⟨fun s h => ⟨s.failedSet, s.droppedSet, exec_readStatus h, s.failedSet_packs, s.droppedSet_packs⟩,
    fun s h => ⟨fun k => exec_readSource h (hbyte k), fun k hk => exec_readSource_badArg h hk,
      fun e => exec_readEntry h (hbyte e), fun e he => exec_readEntry_badArg h he⟩, fun s h => ⟨?_, ?_⟩⟩
  · rw [← ServiceTable.stackBytes_eq_asBytes]
    exact congrArg Host.Outcome.next
      (State.portCommand_answers h (State.takeFrame_read h 0x08 [] rfl rfl (by simp) rfl) rfl)
  · rw [← maskBytes_eq_asBytes]
    exact congrArg Host.Outcome.next
      (State.portCommand_answers h (State.takeFrame_read h 0x09 [] rfl rfl (by simp) rfl) rfl)

/-! What PEEK, TAKE, COMPLETE and COMPLETE_ENTRY answer (Table 10-9) -/

theorem Entry.peekBytes_eq_asBytes (h : Handle) (o : HeldOffer) (p : Phase) :
    (Entry.occupied o p).peekBytes h =
      asBytes [h.val, o.vector.toNat, 16 * o.origin.toNat + o.cls.toNat, 128 * o.tracked.toNat + o.source.val] := by
  have hflag := bitAt_or_ofNat o.tracked (p := 7) (n := o.source.val) (by omega)
  simp [Entry.peekBytes, nibbles_eq_ofNat, asBytes, countByte, hflag]

theorem completeByte_eq_asBytes (h : Handle) (queued : Bool) :
    [completeByte h queued] = asBytes [128 * queued.toNat + h.val] :=
  congrArg (fun b => [b]) (bitAt_or_ofNat (p := 7) queued (by omega))

/-! The station states that take them (Table 8-3) -/

/-- The commands that serve requests are refused with STATE in the states that do not serve. -/
theorem State.portCommand_notServing {s : State} (h : s.portOpen)
    (hs : s.sc.station = .config ∨ s.sc.station = .join ∨ s.sc.station = .halt) {code : Byte} {bs : List Byte}
    (hc : isCommandCode code = true) (hf : byteCountFits code (bs.length + 1) = true) (hl : bs.length ≤ 31)
    (ha : admittedIn code s.sc.station = s.sc.station.serves) (body : List Byte → State → Reply) :
    s.portCommand code ⟨bs, []⟩ body = s.answers (code :: bs) .state [] := by
  have hno : s.sc.station.serves = false := by rcases hs with hs | hs | hs <;> rw [hs] <;> rfl
  rw [State.portCommand_refused (State.takeFrame_state h hc hf hl (ha.trans hno)), portFrameBits_whole]
  exact State.respond_clockFrame h _ _ _ _

/-! PEEK (R115) -/

theorem State.takeFrame_peek {s : State} (h : s.portOpen) (hs : s.sc.station.serves = true) :
    s.takeFrame 0x30 ⟨[], []⟩ = .taken := State.takeFrame_open h _ _ rfl rfl (by simp) hs

/-- PEEK answers with the entry that the search finds. -/
theorem exec_peek_best {s : State} (h : s.portOpen) (hs : s.sc.station.serves = true) {e : Handle}
    (hb : s.svt.best = some e) :
    exec (.peek ⟨[], []⟩) s = .next (s.answers [0x30] .ok ((s.svt.entry e).peekBytes e)) := by
  refine congrArg Host.Outcome.next (State.portCommand_answers h (State.takeFrame_peek h hs) ?_)
  simp only [State.clockFrame_svt, hb]
  rfl

theorem exec_peek_none {s : State} (h : s.portOpen) (hs : s.sc.station.serves = true) (hb : s.svt.best = none) :
    exec (.peek ⟨[], []⟩) s = .next (s.answers [0x30] .none []) := by
  refine congrArg Host.Outcome.next (State.portCommand_answers h (State.takeFrame_peek h hs) ?_)
  simp only [State.clockFrame_svt, hb]
  rfl

/-- Settles O44: the model's search finds the best eligible entry of R113, and PEEK answers with its fields. -/
theorem peekReturnsTheBestEntry : Obligations.PeekReturnsTheBestEntry := by
  refine fun s h => ⟨fun e o p hs hstack _ hbest => ?_, fun hs hstack hnone => ?_, fun hs => ?_⟩
  · have he : s.svt.entry e = .occupied o (.pending p) := hbest.1.1
    rw [exec_peek_best h ((serves_iff _).mpr hs) (ServiceTable.best_of_isBest hstack.notFree hbest), he,
      Entry.peekBytes_eq_asBytes]
  · exact exec_peek_none h ((serves_iff _).mpr hs) (ServiceTable.best_eq_none hstack.notFree hnone)
  · exact congrArg Host.Outcome.next (State.portCommand_notServing h hs rfl rfl (by simp) rfl _)

/-! TAKE (R116) -/

/-- Among eligible entries with arrival positions of their own one comes before the others in the order of R110: the
search is for the least pair of class and position. -/
theorem ServiceTable.exists_isBest {t : ServiceTable}
    (hd : ∀ h j o o' p, t.entry h = .occupied o (.pending p) → t.entry j = .occupied o' (.pending p) → h = j)
    (hw : ∃ h o p, t.waits h o p) : ∃ h o p, t.isBest h o p := by
  obtain ⟨h₀, o₀, p₀, hw₀⟩ := hw
  obtain ⟨⟨c, p⟩, ⟨h, o, hwait, rfl⟩, hmin⟩ :=
    (WellFounded.prod_lex Nat.lt_wfRel.wf Nat.lt_wfRel.wf).has_min
      {q : Nat × Nat | ∃ h o, t.waits h o q.2 ∧ q.1 = o.cls.toNat}
      ⟨(o₀.cls.toNat, p₀), h₀, o₀, hw₀, rfl⟩
  refine ⟨h, o, p, hwait, fun j o' p' hj hne => ?_⟩
  have hle := hmin (o'.cls.toNat, p') ⟨j, o', hj, rfl⟩
  have hp : p' ≠ p := fun e => hne (hd j h o' o p (e ▸ hj.1) hwait.1)
  simp only [Prod.lex_def, WellFoundedRelation.rel] at hle
  simp only [BitVec.lt_def, ← BitVec.toNat_inj]
  omega

theorem State.takeFrame_take {s : State} (h : s.portOpen) (hs : s.sc.station.serves = true) :
    s.takeFrame 0x31 ⟨[], []⟩ = .taken := State.takeFrame_open h _ _ rfl rfl (by simp) hs

/-- The Service Table with entry h, which held offer `o`, ACTIVE and on top of the stack (R109, R116). -/
def ServiceTable.activated (t : ServiceTable) (h : Handle) (o : HeldOffer) : ServiceTable :=
  { t with entries := (t.changeEntry h (.occupied o (.active false))).entries, stack := h :: t.stack }

theorem ServiceTable.entry_activated (t : ServiceTable) (h j : Handle) (o : HeldOffer) :
    (t.activated h o).entry j = (t.changeEntry h (.occupied o (.active false))).entry j := rfl

theorem State.activate_of_occupied {s : State} {h : Handle} {o : HeldOffer} {p : Phase}
    (he : s.svt.entry h = .occupied o p) : s.activate h = { s with svt := s.svt.activated h o } := by
  simp only [State.activate, he, ServiceTable.activated, ServiceTable.changeEntry_stack]
  rw [← ServiceTable.changeEntry_threshold s.svt h (.occupied o (.active false))]

/-- TAKE makes the entry that the search finds ACTIVE, and answers with its fields. -/
theorem exec_take_best {s : State} (h : s.portOpen) (hs : s.sc.station.serves = true) {e : Handle} {o : HeldOffer}
    {p : Phase} (hb : s.svt.best = some e) (he : s.svt.entry e = .occupied o p) :
    exec (.take ⟨[], []⟩) s =
      .next (({ s with svt := s.svt.activated e o } : State).settle.answers [0x31] .ok
        ((Entry.occupied o (.active false)).peekBytes e)) := by
  refine congrArg Host.Outcome.next (State.portCommand_answers
    (u := ({ s with svt := s.svt.activated e o } : State).settle) h (State.takeFrame_take h hs) ?_)
  have he' : (s.clockFrame (byteBits [0x31])).svt.entry e = .occupied o p := he
  have hactive : (s.svt.activated e o).entry e = .occupied o (.active false) := by
    rw [ServiceTable.entry_activated, ServiceTable.entry_changeEntry, if_pos rfl]
  simp only [State.clockFrame_svt, hb, State.activate_of_occupied he', State.settle_svt, hactive]
  rfl

theorem exec_take_none {s : State} (h : s.portOpen) (hs : s.sc.station.serves = true) (hb : s.svt.best = none) :
    exec (.take ⟨[], []⟩) s = .next (s.answers [0x31] .none []) := by
  refine congrArg Host.Outcome.next (State.portCommand_answers h (State.takeFrame_take h hs) ?_)
  simp only [State.clockFrame_svt, hb]
  rfl

/-- Settles O45: a best entry exists by `ServiceTable.exists_isBest`, the model's search finds it, and its change to
ACTIVE moves up the PENDING entries behind it. -/
theorem takeActivatesTheBestEntry : Obligations.TakeActivatesTheBestEntry := by
  refine ⟨fun s ha hw => ServiceTable.exists_isBest ha.once hw, fun s h hs hstack _ => ⟨fun e o p hbest => ?_,
    fun hnone => ?_⟩, fun s h hs => ?_⟩
  · have he : s.svt.entry e = .occupied o (.pending p) := hbest.1.1
    refine ⟨(s.svt.changeEntry e (.occupied o (.active false))).entries, ?_, fun j => ?_⟩
    · rw [exec_take_best h ((serves_iff _).mpr hs) (ServiceTable.best_of_isBest hstack.notFree hbest) he,
        Entry.peekBytes_eq_asBytes]
      rfl
    · refine (ServiceTable.entry_changeEntry s.svt e j _).trans ?_
      rw [he]
      cases hj : s.svt.entry j with
      | free => rfl
      | occupied l q => cases q <;> rfl
  · exact exec_take_none h ((serves_iff _).mpr hs) (ServiceTable.best_eq_none hstack.notFree hnone)
  · exact congrArg Host.Outcome.next (State.portCommand_notServing h hs rfl rfl (by simp) rfl _)

/-! COMPLETE and COMPLETE_ENTRY (R119 to R121) -/

/-- An entry on the stack is not PENDING, so no arrival position moves where it changes. -/
theorem ServiceTable.changeEntry_of_onStack {t : ServiceTable} {h : Handle} (ho : (t.entry h).onStack = true)
    (e : Entry) : t.changeEntry h e = t.setEntry h e := by
  unfold ServiceTable.changeEntry
  split
  next heq => rw [heq] at ho; cases ho
  next => rfl

/-- The Service Table after entry h, on the stack, is completed: the entry becomes `e`, its handle leaves the stack. -/
def ServiceTable.completed (t : ServiceTable) (h : Handle) (e : Entry) : ServiceTable :=
  { t with entries := t.entries.set h.val e, stack := t.stack.filter fun j => j != h }

theorem ServiceTable.unstack_changeEntry {t : ServiceTable} {h : Handle} (ho : (t.entry h).onStack = true) (e : Entry) :
    (t.unstack h).changeEntry h e = t.completed h e := ServiceTable.changeEntry_of_onStack (t := t.unstack h) ho e

@[simp] theorem ServiceTable.entry_unstack (t : ServiceTable) (h j : Handle) : (t.unstack h).entry j = t.entry j := rfl

/-- A tracked ACTIVE entry enters CLOSING, and its DONE joins the tail of the Notice List (R119, R121). -/
theorem State.completeHandle_tracked {s : State} {h : Handle} {o : HeldOffer} {w : Bool}
    (he : s.svt.entry h = .occupied o (.active w)) (ht : o.tracked = true) :
    s.completeHandle h = ({ s with
      svt := s.svt.completed h (.occupied o (.closing .completed)),
      nl := s.nl ++ [doneNotice h o .completed] }, true) := by
  have hon : (s.svt.entry h).onStack = true := by rw [he]; rfl
  simp only [State.completeHandle, ServiceTable.entry_unstack, he, ht, if_true, State.enterClosing, State.queueNotice,
    ServiceTable.unstack_changeEntry hon]

/-- The entries on the stack that complete without a DONE: untracked, or DETACHED (R119). -/
def HeldOffer.endsSilently (o : HeldOffer) (e : Entry) : Prop :=
  (∃ w, e = .occupied o (.active w) ∧ o.tracked = false) ∨ e = .occupied o .detached

/-- An untracked or DETACHED entry becomes FREE, and no DONE is queued (R119). -/
theorem State.completeHandle_frees {s : State} {h : Handle} {o : HeldOffer} (he : o.endsSilently (s.svt.entry h)) :
    s.completeHandle h = ({ s with svt := s.svt.completed h .free }, false) := by
  obtain ⟨w, he, ht⟩ | he := he
  · have hon : (s.svt.entry h).onStack = true := by rw [he]; rfl
    simp only [State.completeHandle, ServiceTable.entry_unstack, he, ht, ServiceTable.unstack_changeEntry hon]
    rfl
  · have hon : (s.svt.entry h).onStack = true := by rw [he]; rfl
    simp only [State.completeHandle, ServiceTable.entry_unstack, he, ServiceTable.unstack_changeEntry hon]

/-- Completion reaches the Service Table and the Notice List alone. -/
theorem State.completeHandle_moved (s : State) (h : Handle) : (s.completeHandle h).1 =
    { s with svt := (s.completeHandle h).1.svt, nl := (s.completeHandle h).1.nl } := by
  simp only [State.completeHandle]
  split
  · split <;> rfl
  all_goals rfl

/-- Completion reads and writes nothing of the port. -/
theorem State.completeHandle_clockFrame (s : State) (bits : List Bool) (h : Handle) :
    (s.clockFrame bits).completeHandle h =
      ((s.completeHandle h).1.clockFrame bits, (s.completeHandle h).2) := by
  simp only [State.completeHandle, State.clockFrame_svt]
  split
  · split <;> rfl
  all_goals rfl

theorem State.portOpen_settle_completeHandle {s : State} (h : s.portOpen) (e : Handle) :
    (s.completeHandle e).1.settle.portOpen := by
  rw [State.completeHandle_moved]
  exact h

theorem State.takeFrame_complete {s : State} (h : s.portOpen) (hs : s.sc.station.serves = true) :
    s.takeFrame 0x32 ⟨[], []⟩ = .taken := State.takeFrame_open h _ _ rfl rfl (by simp) hs

/-- COMPLETE completes the entry on top of the stack. -/
theorem exec_complete_top {s : State} (h : s.portOpen) (hs : s.sc.station.serves = true) {e : Handle}
    {rest : List Handle} (hst : s.svt.stack = e :: rest) :
    exec (.complete ⟨[], []⟩) s = .next ((s.completeHandle e).1.settle.answers [0x32] .ok
      [completeByte e (s.completeHandle e).2]) := by
  refine congrArg Host.Outcome.next (State.portCommand_answers (State.portOpen_settle_completeHandle h e)
    (State.takeFrame_complete h hs) ?_)
  simp only [State.clockFrame_svt, hst, State.completeHandle_clockFrame]
  rfl

theorem exec_complete_empty {s : State} (h : s.portOpen) (hs : s.sc.station.serves = true) (hst : s.svt.stack = []) :
    exec (.complete ⟨[], []⟩) s = .next (s.answers [0x32] .empty []) := by
  refine congrArg Host.Outcome.next (State.portCommand_answers h (State.takeFrame_complete h hs) ?_)
  simp only [State.clockFrame_svt, hst]
  rfl

/-- The handle on top is on the stack once, so only the top leaves. -/
theorem StackRight.filter_top {s : State} (hstack : StackRight s) {h : Handle} {rest : List Handle}
    (hst : s.svt.stack = h :: rest) : (s.svt.stack.filter fun j => j != h) = rest := by
  obtain ⟨hnot, -⟩ := List.nodup_cons.mp (hst ▸ hstack.once)
  rw [hst, List.filter_cons_of_neg (by simp), List.filter_eq_self]
  exact fun j hj => bne_iff_ne.mpr fun e => hnot (e ▸ hj)

/-- Settles O46: the top entry is completed as COMPLETE_ENTRY completes any, and its handle is the only one that
leaves the stack. -/
theorem completeFinishesTheTopEntry : Obligations.CompleteFinishesTheTopEntry := by
  refine ⟨fun s h hs hstack => ⟨fun hst => exec_complete_empty h ((serves_iff _).mpr hs) hst,
    fun e rest o hst => ⟨fun w he ht => ?_, fun he => ?_⟩⟩, fun s h hs => ?_⟩
  · rw [exec_complete_top h ((serves_iff _).mpr hs) hst, State.completeHandle_tracked he ht, completeByte_eq_asBytes,
      ServiceTable.completed, hstack.filter_top hst]
    rfl
  · rw [exec_complete_top h ((serves_iff _).mpr hs) hst, State.completeHandle_frees he, completeByte_eq_asBytes,
      ServiceTable.completed, hstack.filter_top hst, Bool.toNat_false, Nat.mul_zero, Nat.zero_add]
  · exact congrArg Host.Outcome.next (State.portCommand_notServing h hs rfl rfl (by simp) rfl _)

theorem State.takeFrame_completeEntry {s : State} (h : s.portOpen) (hs : s.sc.station.serves = true) (v : Byte) :
    s.takeFrame 0x33 ⟨[v], []⟩ = .taken := State.takeFrame_open h _ _ rfl rfl (by simp) hs

/-- COMPLETE_ENTRY completes the entry it names where that is on the stack. -/
theorem exec_completeEntry {s : State} (h : s.portOpen) (hs : s.sc.station.serves = true) {v : Byte} {e : Handle}
    (hv : v.toNat = e.val) (hon : (s.svt.entry e).onStack = true) :
    exec (.completeEntry ⟨[v], []⟩) s = .next ((s.completeHandle e).1.settle.answers [0x33, v] .ok
      [completeByte e (s.completeHandle e).2]) := by
  have hlt : v.toNat < 24 := hv ▸ e.isLt
  obtain rfl : e = ⟨v.toNat, hlt⟩ := Fin.ext hv.symm
  refine congrArg Host.Outcome.next (State.portCommand_answers (State.portOpen_settle_completeHandle h _)
    (State.takeFrame_completeEntry h hs v) ?_)
  refine (dif_pos hlt).trans ((if_pos hon).trans ?_)
  rw [State.completeHandle_clockFrame]
  rfl

/-- An entry that is neither ACTIVE nor DETACHED is not on the stack, and is refused with BADHANDLE. -/
theorem exec_completeEntry_badHandle {s : State} (h : s.portOpen) (hs : s.sc.station.serves = true) {v : Byte}
    {e : Handle} (hv : v.toNat = e.val) (hon : (s.svt.entry e).onStack = false) :
    exec (.completeEntry ⟨[v], []⟩) s = .next (s.answers [0x33, v] .badHandle []) := by
  have hlt : v.toNat < 24 := hv ▸ e.isLt
  obtain rfl : e = ⟨v.toNat, hlt⟩ := Fin.ext hv.symm
  refine congrArg Host.Outcome.next (State.portCommand_answers h (State.takeFrame_completeEntry h hs v) ?_)
  exact (dif_pos hlt).trans (if_neg (ne_true_of_eq_false hon))

/-- A handle above 23 names no entry and is refused with BADARG. -/
theorem exec_completeEntry_badArg {s : State} (h : s.portOpen) (hs : s.sc.station.serves = true) {v : Byte}
    (hv : 23 < v.toNat) : exec (.completeEntry ⟨[v], []⟩) s = .next (s.answers [0x33, v] .badArg []) := by
  refine congrArg Host.Outcome.next (State.portCommand_answers h (State.takeFrame_completeEntry h hs v) ?_)
  exact dif_neg (not_lt.mpr hv)

/-- Settles O47: the entry named is completed, and its handle leaves the stack from any place. -/
theorem completeEntryFinishesTheNamedEntry : Obligations.CompleteEntryFinishesTheNamedEntry := by
  refine ⟨fun s e h hs => ?_, fun s h hs v => ?_⟩
  · have hv : (BitVec.ofNat 8 e.val).toNat = e.val := Nat.mod_eq_of_lt (by omega)
    have hserves := (serves_iff _).mpr hs
    refine ⟨fun o w he ht => ?_, fun o he => ?_, fun hon => ?_, fun v hv => ?_⟩
    · have hon : (s.svt.entry e).onStack = true := by rw [he]; rfl
      rw [exec_completeEntry h hserves hv hon, State.completeHandle_tracked he ht, completeByte_eq_asBytes]
      rfl
    · have hon : (s.svt.entry e).onStack = true := by
        obtain ⟨w, he, -⟩ | he := he <;> rw [he] <;> rfl
      rw [exec_completeEntry h hserves hv hon, State.completeHandle_frees he, completeByte_eq_asBytes,
        Bool.toNat_false, Nat.mul_zero, Nat.zero_add]
      rfl
    · exact exec_completeEntry_badHandle h hserves hv hon
    · exact exec_completeEntry_badArg h hserves hv
  · exact congrArg Host.Outcome.next (State.portCommand_notServing h hs rfl rfl (by simp) rfl _)

end Sys2Proof.Machine
end

section
/-! The statements of family 08: the reads of the Local Port that change nothing (R159, R160). -/

namespace Sys2Proof.Machine

/-! READ_ID (R160) -/

/-- Settles O34: READ_ID is a read with no argument, and its body answers with the identification and the station
ID of the state as it stands. -/
theorem readIdReturnsTheIdentification : Obligations.ReadIdReturnsTheIdentification := by
  intro s h
  have ht : s.takeFrame 0x01 ⟨[], []⟩ = .taken := State.takeFrame_read h 0x01 [] rfl rfl (by simp) rfl
  exact congrArg Host.Outcome.next (State.portCommand_answers h ht rfl)

/-! NOP (R159) -/

/-- A NOP frame may hold up to 32 bytes, its code among them (Table 10-5). -/
theorem byteCountFits_nop {n : Nat} (h : n ≤ 31) : byteCountFits 0x00 (n + 1) = true := by
  have hcount : byteCount 0x00 = some (1, 32) := rfl
  rw [byteCountFits, hcount]
  simpa using Nat.lt_succ_of_le h

/-- Check 3 of Table 8-2: whatever its code, a frame of more than 32 whole bytes is over 256 bits long and is
refused with BADLEN. -/
theorem State.takeFrame_overlong {s : State} (h : s.portOpen) (code : Byte) {bs : List Byte}
    (hl : 31 < bs.length) : s.takeFrame code ⟨bs, []⟩ = .refused .badLen := by
  have hlen : 256 < (portFrameBits code ⟨bs, []⟩).length := by
    rw [portFrameBits_whole, byteBits_length, List.length_cons]; omega
  have hlimit : Config.inputLimit < (portFrameBits code ⟨bs, []⟩).length := hlen
  simp [State.takeFrame, State.frameOfReset_eq_false h, hlimit]

/-- The padding is clocked through the port, and the status word is read from the state as it stands. -/
theorem exec_nop {s : State} (h : s.portOpen) {padding : List Byte} (hl : padding.length ≤ 31) :
    exec (.nop ⟨padding, []⟩) s = .next (s.answers (0x00 :: padding) .ok (asBytes s.statusLayout)) := by
  rw [← State.statusWord_eq_asBytes]
  exact congrArg Host.Outcome.next
    (State.portCommand_answers h (State.takeFrame_read h 0x00 padding rfl (byteCountFits_nop hl) hl rfl) rfl)

theorem exec_nop_overlong {s : State} (h : s.portOpen) {padding : List Byte} (hl : 31 < padding.length) :
    exec (.nop ⟨padding, []⟩) s = .next (s.answers (0x00 :: padding) .badLen []) := by
  rw [exec_of_refused rfl (State.takeFrame_overlong h 0x00 hl), portFrameBits_whole]
  exact congrArg Host.Outcome.next (State.respond_clockFrame h _ _ _ _)

/-- Settles O35: a padding of at most 31 bytes passes the byte count check, and a longer one overruns the input
register of 256 bits. -/
theorem nopReturnsTheStatusWord : Obligations.NopReturnsTheStatusWord :=
  fun _ _ h => ⟨exec_nop h, exec_nop_overlong h⟩

end Sys2Proof.Machine
end

section
/-! The statements of family 09: the reads of the Configuration Store and the commands that write it (R163, R173 to
R178). -/

namespace Sys2Proof.Machine

/-! The layouts of the line and the route records (Tables 10-6, 10-7, 10-11) -/

theorem LineSetting.byte_eq_ofNat (c : LineSetting) :
    c.byte = BitVec.ofNat 8 (4 * c.debounce.toNat + 2 * c.level.toNat + c.activeLow.toNat) := by
  have hlevel := c.level.toNat_le
  have hlow := c.activeLow.toNat_le
  have hbit : bitAt 0 c.activeLow = BitVec.ofNat 8 c.activeLow.toNat := rfl
  rw [LineSetting.byte, hbit]
  simp (disch := omega) only [BitVec.or_assoc, bitAt_or_ofNat, Nat.add_assoc, Nat.reducePow]

theorem LineState.byte_eq_ofNat (l : LineState) : l.byte =
    BitVec.ofNat 8 (16 * l.count + 4 * l.armed.toNat + 2 * l.q.toNat + l.lastSample.toNat) := by
  have harmed := l.armed.toNat_le
  have hq := l.q.toNat_le
  have hsample := l.lastSample.toNat_le
  have hbit : bitAt 0 l.lastSample = BitVec.ofNat 8 l.lastSample.toNat := rfl
  have hcount : countByte l.count <<< 4 = BitVec.ofNat 8 (2 ^ 4 * l.count) := by
    apply BitVec.eq_of_toNat_eq
    rw [countByte, BitVec.toNat_shiftLeft, BitVec.toNat_ofNat, BitVec.toNat_ofNat, Nat.shiftLeft_eq]
    omega
  rw [LineState.byte, hbit, hcount]
  simp (disch := omega) only [BitVec.or_assoc, bitAt_or_ofNat]
  rw [ofNat_or_ofNat (by omega)]
  simp only [Nat.add_assoc, Nat.reducePow]

theorem RouteMode.toNat_byte (m : RouteMode) :
    m.byte.toNat = match m with | .direct => 0 | .pool => 1 | .spread => 2 := by
  cases m <;> rfl

theorem Route.bytes_eq_asBytes (r : Route) : r.bytes = asBytes [r.mode.byte.toNat, r.cls.toNat, r.vector.toNat,
    r.targetId.toNat, r.targetMask.toNat / 256, r.targetMask.toNat % 256,
    2 * r.reentrant.toNat + r.enabled.toNat] := by
  have hflags : bitAt 1 r.reentrant ||| bitAt 0 r.enabled =
      BitVec.ofNat 8 (2 * r.reentrant.toNat + r.enabled.toNat) :=
    bitAt_or_ofNat (p := 1) r.reentrant r.enabled.toNat_lt
  simp [Route.bytes, hflags, maskBytes_eq_asBytes, asBytes]

/-! READ_STATION, READ_LINE and READ_ROUTE (R163, R177, R178) -/

theorem exec_readLine {s : State} (h : s.portOpen) {v : Byte} {n : LineIndex} (hn : v.toNat = n.val) :
    exec (.readLine ⟨[v], []⟩) s = .next (s.answers [0x04, v] .ok
      [countByte n.val, (s.setting n).byte, (s.line n).byte]) := by
  have hv : v.toNat < 16 := hn ▸ n.isLt
  obtain rfl : n = ⟨v.toNat, hv⟩ := Fin.ext hn.symm
  exact congrArg Host.Outcome.next
    (State.portCommand_answers h (State.takeFrame_read h 0x04 [v] rfl rfl (by simp) rfl) (dif_pos hv))

theorem exec_readLine_badArg {s : State} (h : s.portOpen) {v : Byte} (hv : 15 < v.toNat) :
    exec (.readLine ⟨[v], []⟩) s = .next (s.answers [0x04, v] .badArg []) :=
  congrArg Host.Outcome.next
    (State.portCommand_answers h (State.takeFrame_read h 0x04 [v] rfl rfl (by simp) rfl) (dif_neg (not_lt.mpr hv)))

theorem exec_readRoute {s : State} (h : s.portOpen) {v : Byte} {k : SourceIndex} (hk : v.toNat = k.val) :
    exec (.readRoute ⟨[v], []⟩) s = .next (s.answers [0x05, v] .ok (countByte k.val :: (s.route k).bytes)) := by
  have hv : v.toNat < 24 := hk ▸ k.isLt
  obtain rfl : k = ⟨v.toNat, hv⟩ := Fin.ext hk.symm
  exact congrArg Host.Outcome.next
    (State.portCommand_answers h (State.takeFrame_read h 0x05 [v] rfl rfl (by simp) rfl) (dif_pos hv))

theorem exec_readRoute_badArg {s : State} (h : s.portOpen) {v : Byte} (hv : 23 < v.toNat) :
    exec (.readRoute ⟨[v], []⟩) s = .next (s.answers [0x05, v] .badArg []) :=
  congrArg Host.Outcome.next
    (State.portCommand_answers h (State.takeFrame_read h 0x05 [v] rfl rfl (by simp) rfl) (dif_neg (not_lt.mpr hv)))

/-- Settles O37: each read answers with its record of the state as it stands, and the record's bytes are those of its
layout. -/
theorem readsOfTheConfiguration : Obligations.ReadsOfTheConfiguration := by
  refine ⟨fun s h => ?_, fun s h => ⟨fun n => ?_, fun n hn => exec_readLine_badArg h hn, fun k => ?_,
    fun k hk => exec_readRoute_badArg h hk⟩⟩
  · exact congrArg Host.Outcome.next
      (State.portCommand_answers h (State.takeFrame_read h 0x03 [] rfl rfl (by simp) rfl) rfl)
  · have hn : (BitVec.ofNat 8 n.val).toNat = n.val := Nat.mod_eq_of_lt (by omega)
    rw [exec_readLine h hn, LineSetting.byte_eq_ofNat, LineState.byte_eq_ofNat]
    rfl
  · have hk : (BitVec.ofNat 8 k.val).toNat = k.val := Nat.mod_eq_of_lt (by omega)
    intro r
    rw [exec_readRoute h hk, Route.bytes_eq_asBytes, RouteMode.toNat_byte]
    rfl

/-! A command that CONFIG alone takes (R155, Table 8-3) -/

theorem State.takeFrame_config {s : State} (h : s.portOpen) (hs : s.sc.station = .config) (code : Byte)
    (bs : List Byte) (hc : isCommandCode code = true) (hf : byteCountFits code (bs.length + 1) = true)
    (hl : bs.length ≤ 31) (ha : admittedIn code .config = true) : s.takeFrame code ⟨bs, []⟩ = .taken :=
  State.takeFrame_open h code bs hc hf hl (hs ▸ ha)

/-- Checks 3 and 5 of Table 8-2: a frame of whole bytes whose count does not fit its code is refused with BADLEN,
where it overruns the input register as where it does not. -/
theorem State.takeFrame_badLen {s : State} (h : s.portOpen) {code : Byte} {bs : List Byte}
    (hc : isCommandCode code = true) (hf : byteCountFits code (bs.length + 1) = false) :
    s.takeFrame code ⟨bs, []⟩ = .refused .badLen := by
  simp [State.takeFrame, State.frameOfReset_eq_false h, hc, hf]

/-! SET_STATION (R173) -/

theorem State.takeFrame_setStation {s : State} (h : s.portOpen) (hs : s.sc.station = .config)
    (limit delay divider : Byte) : s.takeFrame 0x10 ⟨[limit, delay, divider], []⟩ = .taken :=
  State.takeFrame_config h hs _ _ rfl rfl (by simp) rfl

theorem exec_setStation {s : State} (h : s.portOpen) (hs : s.sc.station = .config) (limit : Byte)
    {delay divider : Byte} (hdelay : delay ≠ 0) (hdivider : divider ≠ 0) :
    exec (.setStation ⟨[limit, delay, divider], []⟩) s = .next (({ s with
      cs := { s.cs with declineLimit := limit, retryDelay := delay, tickDivider := divider } } : State).answers
        [0x10, limit, delay, divider] .ok []) := by
  refine congrArg Host.Outcome.next (State.portCommand_answers
    (u := { s with cs := { s.cs with declineLimit := limit, retryDelay := delay, tickDivider := divider } }) h
    (State.takeFrame_setStation h hs limit delay divider) ?_)
  exact (if_neg hdelay).trans (if_neg hdivider)

/-- A retry delay or a tick divider of 0 is refused with BADARG. -/
theorem exec_setStation_badArg {s : State} (h : s.portOpen) (hs : s.sc.station = .config) (limit : Byte)
    {delay divider : Byte} (hzero : delay = 0 ∨ divider = 0) :
    exec (.setStation ⟨[limit, delay, divider], []⟩) s =
      .next (s.answers [0x10, limit, delay, divider] .badArg []) := by
  refine congrArg Host.Outcome.next
    (State.portCommand_answers h (State.takeFrame_setStation h hs limit delay divider) ?_)
  by_cases hdelay : delay = 0
  · exact if_pos hdelay
  · exact (if_neg hdelay).trans (if_pos (hzero.resolve_left hdelay))

theorem byteCountFits_setStation {n : Nat} (hn : n ≠ 3) : byteCountFits 0x10 (n + 1) = false := by
  have hcount : byteCount 0x10 = some (4, 4) := rfl
  have hout : ¬ (4 ≤ n + 1 ∧ n + 1 ≤ 4) := by omega
  rw [byteCountFits, hcount]
  simpa using hout

theorem exec_setStation_badLen {s : State} (h : s.portOpen) {bytes : List Byte} (hl : bytes.length ≠ 3) :
    exec (.setStation ⟨bytes, []⟩) s = .next (s.answers (0x10 :: bytes) .badLen []) := by
  rw [exec_of_refused rfl (State.takeFrame_badLen h (code := 0x10) rfl (byteCountFits_setStation hl)),
    portFrameBits_whole]
  exact congrArg Host.Outcome.next (State.respond_clockFrame h _ _ _ _)

/-- Settles O38: the argument check is that of a 0 in the retry delay or the tick divider, and the byte count check
comes before it. -/
theorem setStationWritesTheParameters : Obligations.SetStationWritesTheParameters :=
  fun _ limit _ _ h hs => ⟨exec_setStation h hs limit, exec_setStation_badArg h hs limit,
    fun _ => exec_setStation_badLen h⟩

/-! Reserved positions and the other fields of an argument byte (Tables 10-6, 10-7) -/

/-- No position from `p` on is set exactly where the value is below 2 to the `p`. -/
theorem and_highOnes_eq_zero_iff {w : Nat} (b : BitVec w) (p : Nat) :
    b &&& (BitVec.allOnes w <<< p) = 0 ↔ b.toNat < 2 ^ p := by
  constructor
  · intro hz
    refine Nat.lt_pow_two_of_testBit _ fun i hi => ?_
    rw [BitVec.testBit_toNat]
    by_cases hw : i < w
    · have hbit : (b &&& (BitVec.allOnes w <<< p)).getLsbD i = false := by rw [hz]; exact BitVec.getLsbD_zero
      have hsub : i - p < w := by omega
      simpa [hw, hsub, not_lt.mpr hi] using hbit
    · exact BitVec.getLsbD_of_ge b i (not_lt.mp hw)
  · intro hlt
    refine BitVec.eq_of_getLsbD_eq fun i _ => ?_
    by_cases hi : i < p
    · simp [hi]
    · have hclear : b.getLsbD i = false :=
        Nat.testBit_lt_two_pow (hlt.trans_le (Nat.pow_le_pow_right (by decide) (not_lt.mp hi)))
      simp [hclear]

theorem settingOfByte_eq (b : Byte) : settingOfByte b =
    if b.toNat < 8 then some { activeLow := b.getLsbD 0, level := b.getLsbD 1, debounce := b.getLsbD 2 }
    else none := by
  have hreserved : b &&& 0xF8 = 0 ↔ b.toNat < 8 := and_highOnes_eq_zero_iff b 3
  simp only [settingOfByte, bne_iff_ne, ne_eq, hreserved, ite_not]

/-- The mode that a byte of at most 2 names. -/
def namedMode (b : Byte) : RouteMode := if b = 0 then .direct else if b = 1 then .pool else .spread

theorem modeOfByte_eq (b : Byte) : modeOfByte b = if b.toNat ≤ 2 then some (namedMode b) else none := by
  have named {n : Nat} (hn : b.toNat = n) : b = BitVec.ofNat 8 n := by
    rw [← hn, BitVec.ofNat_toNat, BitVec.setWidth_eq]
  unfold modeOfByte
  split
  next hb => rw [named hb]; rfl
  next hb => rw [named hb]; rfl
  next hb => rw [named hb]; rfl
  next h0 h1 h2 =>
    refine (if_neg fun hb => ?_).symm
    have hcases : b.toNat = 0 ∨ b.toNat = 1 ∨ b.toNat = 2 := by omega
    exact hcases.elim h0 (Or.elim · h1 h2)

theorem namedMode_eq_direct_iff (b : Byte) : namedMode b = .direct ↔ b = 0 := by
  unfold namedMode
  split
  next hb => simp [hb]
  next hb => split <;> exact iff_of_false nofun hb

theorem byteAppend_eq_zero_iff (hi lo : Byte) : (hi ++ lo : StationMask) = 0 ↔ hi = 0 ∧ lo = 0 := by
  have hlo := lo.isLt
  rw [← BitVec.toNat_inj, ← BitVec.toNat_inj, ← BitVec.toNat_inj, BitVec.toNat_append,
    ← Nat.shiftLeft_add_eq_or_of_lt hlo, Nat.shiftLeft_eq]
  simp

/-! SET_LINE (R174) -/

theorem State.takeFrame_setLine {s : State} (h : s.portOpen) (hs : s.sc.station = .config) (n settings : Byte) :
    s.takeFrame 0x11 ⟨[n, settings], []⟩ = .taken := State.takeFrame_config h hs _ _ rfl rfl (by simp) rfl

theorem exec_setLine {s : State} (h : s.portOpen) (hs : s.sc.station = .config) {n settings : Byte}
    (hn : n.toNat < 16) {c : LineSetting} (hc : settingOfByte settings = some c) :
    exec (.setLine ⟨[n, settings], []⟩) s = .next (({ s with
      cs := { s.cs with lines := s.cs.lines.set n.toNat c hn } } : State).answers [0x11, n, settings] .ok []) := by
  refine congrArg Host.Outcome.next (State.portCommand_answers
    (u := { s with cs := { s.cs with lines := s.cs.lines.set n.toNat c hn } }) h
    (State.takeFrame_setLine h hs n settings) ?_)
  have hc' : settingOfByte (arg [n, settings] 1) = some c := hc
  refine (dif_pos hn).trans ?_
  rw [hc']
  rfl

/-- A line above 15, or a settings byte with a reserved position set, is refused with BADARG. -/
theorem exec_setLine_badArg {s : State} (h : s.portOpen) (hs : s.sc.station = .config) {n settings : Byte}
    (hbad : n.toNat < 16 → settingOfByte settings = none) :
    exec (.setLine ⟨[n, settings], []⟩) s = .next (s.answers [0x11, n, settings] .badArg []) := by
  refine congrArg Host.Outcome.next (State.portCommand_answers h (State.takeFrame_setLine h hs n settings) ?_)
  by_cases hn : n.toNat < 16
  · have hnone : settingOfByte (arg [n, settings] 1) = none := hbad hn
    refine (dif_pos hn).trans ?_
    rw [hnone]
    rfl
  · exact dif_neg hn

/-! SET_ROUTE (R175) -/

/-- The checks of R175 from order 2 on, on the values of the argument bytes. -/
abbrev RouteArgsValid (mode cls target hi lo flags : Byte) : Prop :=
  mode.toNat ≤ 2 ∧ cls.toNat ≤ 15 ∧ target.toNat ≤ 15 ∧ (mode = 0 ∨ hi ≠ 0 ∨ lo ≠ 0) ∧ flags.toNat ≤ 3

/-- The route entry that the argument bytes give (Table 10-7). -/
def routeOfArgs (mode cls vector target hi lo flags : Byte) : Route :=
  { enabled := flags.getLsbD 0, mode := namedMode mode, cls := cls.setWidth 4, vector := vector,
    targetId := target.setWidth 4, targetMask := hi ++ lo, reentrant := flags.getLsbD 1 }

theorem routeOfBytes_eq (k mode cls vector target hi lo flags : Byte) :
    routeOfBytes [k, mode, cls, vector, target, hi, lo, flags] =
      if RouteArgsValid mode cls target hi lo flags then some (routeOfArgs mode cls vector target hi lo flags)
      else none := by
  have hmask : (namedMode mode != .direct && (hi ++ lo : StationMask) == 0) = true ↔
      ¬ (mode = 0 ∨ hi ≠ 0 ∨ lo ≠ 0) := by
    rw [Bool.and_eq_true, bne_iff_ne, beq_iff_eq, ne_eq, namedMode_eq_direct_iff, byteAppend_eq_zero_iff]
    tauto
  have hflags : (flags &&& 0xFC != 0) = true ↔ ¬ flags.toNat ≤ 3 := by
    have hreserved : flags &&& 0xFC = 0 ↔ flags.toNat < 4 := and_highOnes_eq_zero_iff flags 2
    rw [bne_iff_ne, ne_eq, hreserved, Nat.lt_succ_iff]
  simp only [routeOfBytes, arg, List.getD_cons_succ, List.getD_cons_zero]
  by_cases hmode : mode.toNat ≤ 2
  · have hnamed : modeOfByte mode = some (namedMode mode) := (modeOfByte_eq mode).trans (if_pos hmode)
    simp only [hnamed, hmask, hflags, RouteArgsValid, hmode, true_and, ite_and, ite_not, ← not_le]
    rfl
  · have hnone : modeOfByte mode = none := (modeOfByte_eq mode).trans (if_neg hmode)
    simp only [hnone, RouteArgsValid, hmode, false_and, if_false]

theorem State.takeFrame_setRoute {s : State} (h : s.portOpen) (hs : s.sc.station = .config) {bytes : List Byte}
    (hl : bytes.length = 8) : s.takeFrame 0x12 ⟨bytes, []⟩ = .taken :=
  State.takeFrame_config h hs _ _ rfl (by rw [hl]; rfl) (by omega) rfl

theorem exec_setRoute {s : State} (h : s.portOpen) (hs : s.sc.station = .config) {bytes : List Byte}
    (hl : bytes.length = 8) (hk : (arg bytes 0).toNat < 24) {r : Route} (hr : routeOfBytes bytes = some r) :
    exec (.setRoute ⟨bytes, []⟩) s = .next (({ s with
      cs := { s.cs with routes := s.cs.routes.set (arg bytes 0).toNat r hk } } : State).answers
        (0x12 :: bytes) .ok []) := by
  refine congrArg Host.Outcome.next (State.portCommand_answers
    (u := { s with cs := { s.cs with routes := s.cs.routes.set (arg bytes 0).toNat r hk } }) h
    (State.takeFrame_setRoute h hs hl) ?_)
  refine (dif_pos hk).trans ?_
  rw [hr]
  rfl

/-- A source above 23, or argument bytes that fail a check of R175, are refused with BADARG. -/
theorem exec_setRoute_badArg {s : State} (h : s.portOpen) (hs : s.sc.station = .config) {bytes : List Byte}
    (hl : bytes.length = 8) (hbad : (arg bytes 0).toNat < 24 → routeOfBytes bytes = none) :
    exec (.setRoute ⟨bytes, []⟩) s = .next (s.answers (0x12 :: bytes) .badArg []) := by
  refine congrArg Host.Outcome.next (State.portCommand_answers h (State.takeFrame_setRoute h hs hl) ?_)
  by_cases hk : (arg bytes 0).toNat < 24
  · refine (dif_pos hk).trans ?_
    rw [hbad hk]
    rfl
  · exact dif_neg hk

/-- Settles O39: a settings byte gives a line setting, and argument bytes a route entry, exactly where they pass
their checks. -/
theorem setLineAndSetRoute : Obligations.SetLineAndSetRoute := by
  refine ⟨fun s n settings h hs => ⟨fun hn hset => ?_, fun hbad => ?_⟩,
    fun s k mode cls vector target hi lo flags h hs => ⟨fun hk hvalid => ?_, fun hbad => ?_⟩⟩
  · exact exec_setLine h hs hn ((settingOfByte_eq settings).trans (if_pos hset))
  · refine exec_setLine_badArg h hs fun hn => (settingOfByte_eq settings).trans (if_neg ?_)
    exact not_lt.mpr (hbad.resolve_left (by omega))
  · exact exec_setRoute h hs (bytes := [k, mode, cls, vector, target, hi, lo, flags]) rfl hk
      ((routeOfBytes_eq ..).trans (if_pos hvalid))
  · refine exec_setRoute_badArg h hs rfl fun hk : k.toNat < 24 => (routeOfBytes_eq ..).trans (if_neg ?_)
    exact hbad.resolve_left (by omega)

end Sys2Proof.Machine
end

section
/-! What a step can do. `TableEvent` names the events of the Source Table, the Service Table and the Notice List,
`Effect` the effects of a command; `exec_effect` and `step_cases` say that nothing else happens. Every invariant of
the station is derived from these. -/

namespace Sys2Proof.Machine

/-! What a port frame changes by itself -/

/-- Only the port's frame items, its buffer and LSDO may differ; LSDO goes with the frame, and the input register
holds no more bits than it can (R153, R154). -/
structure State.portMoved (s t : State) : Prop where
  same : t = { s with
    lp := { t.lp with alerts := s.lp.alerts },
    pins := { s.pins with lsdo := t.pins.lsdo, lsdoOut := t.pins.lsdoOut } }
  lsdo : (s.pins.lsdo = none ↔ s.lp.frame = .noFrame) → (t.pins.lsdo = none ↔ t.lp.frame = .noFrame)
  input : s.lp.input.length ≤ 256 → t.lp.input.length ≤ 256

theorem State.portMoved_refl (s : State) : s.portMoved s := ⟨rfl, id, id⟩

theorem State.portMoved_trans {s t u : State} (h : s.portMoved t) (h' : t.portMoved u) : s.portMoved u where
  same := by rw [h'.same, h.same]
  lsdo := h'.lsdo ∘ h.lsdo
  input := h'.input ∘ h.input

theorem State.portMoved.sc {s t : State} (h : s.portMoved t) : t.sc = s.sc := by rw [h.same]
theorem State.portMoved.cs {s t : State} (h : s.portMoved t) : t.cs = s.cs := by rw [h.same]
theorem State.portMoved.liu {s t : State} (h : s.portMoved t) : t.liu = s.liu := by rw [h.same]
theorem State.portMoved.st {s t : State} (h : s.portMoved t) : t.st = s.st := by rw [h.same]
theorem State.portMoved.ts {s t : State} (h : s.portMoved t) : t.ts = s.ts := by rw [h.same]
theorem State.portMoved.pbe {s t : State} (h : s.portMoved t) : t.pbe = s.pbe := by rw [h.same]
theorem State.portMoved.cu {s t : State} (h : s.portMoved t) : t.cu = s.cu := by rw [h.same]
theorem State.portMoved.svt {s t : State} (h : s.portMoved t) : t.svt = s.svt := by rw [h.same]
theorem State.portMoved.nl {s t : State} (h : s.portMoved t) : t.nl = s.nl := by rw [h.same]
theorem State.portMoved.alerts {s t : State} (h : s.portMoved t) : t.lp.alerts = s.lp.alerts := by rw [h.same]
theorem State.portMoved.srqLow {s t : State} (h : s.portMoved t) : t.pins.srqLow = s.pins.srqLow := by rw [h.same]
theorem State.portMoved.alertLow {s t : State} (h : s.portMoved t) : t.pins.alertLow = s.pins.alertLow := by rw [h.same]
theorem State.portMoved.pending {s t : State} (h : s.portMoved t) : t.pending = s.pending := by rw [h.same]

theorem State.portMoved_clockFrame (s : State) (bits : List Bool) (before : Nat) :
    s.portMoved (s.clockFrame bits before) where
  same := rfl
  lsdo := fun _ => ⟨fun _ => rfl, fun _ => rfl⟩
  input := fun _ => by
    simp only [State.clockFrame]
    split
    · exact Nat.zero_le _
    · exact (List.length_take_le _ _)

theorem State.portMoved_respond (s : State) (r : ResultCode) (code : Option Byte) (data : List Byte) :
    s.portMoved (s.respond r code data) := ⟨rfl, id, id⟩

/-! Events of the tables -/

/-- The events that reach the Source Table, the Service Table and the Notice List, with what is known where the
commands bring them. -/
inductive TableEvent (s : State) : State → Prop
  | request (k : SourceIndex) (he : (s.route k).enabled = true) : TableEvent s (s.requestEvent k)
  | withdraw (k : SourceIndex) : TableEvent s (s.withdrawEvent k)
  | tick (k : SourceIndex) : TableEvent s (s.tickSource k)
  | cancel (k : SourceIndex) :
      TableEvent s ((s.setSource k { s.source k with again := false }).cancelByState k)
  | arbitrated (k : SourceIndex) (won : Bool) : TableEvent s (s.offerArbitrated k won)
  | placed (k : SourceIndex) (x : StationId) {f : Frame} (hi : s.ts.inHand = some { item := .offer k, frame := f })
      (hf : f.kind ≠ .spread) : TableEvent s (s.offerPlaced k x)
  | notPlaced (k : SourceIndex) : TableEvent s (s.offerNotPlaced k)
  | spreadEnds (k : SourceIndex) (accepted : StationMask) : TableEvent s (s.spreadRoundEnds k accepted)
  | fails (k : SourceIndex) (ho : (s.source k).state = .offering) (hc : (s.source k).cancelPending = false) :
      TableEvent s (s.enterFailed k)
  | done (x : StationId) (k : SourceIndex) (g : Generation) : TableEvent s (s.doneDelivered x k g)
  | hello (x : StationId) : TableEvent s (s.helloDelivered x)
  | acknowledged (r : NoticeRef) : TableEvent s (s.noticeAcknowledged r)
  | unsuccessful (r : NoticeRef) : TableEvent s (s.noticeUnsuccessful r)
  | dropped {r : NoticeRef} {n : Notice} (hn : s.notice? r = some n) : TableEvent s (s.dropNotice r)
  | holdOffs (f : Notice → Option Nat) (hf : ∀ n t, f n = some t → ∃ t', n.holdOff = some t' ∧ (timerInRange t' → timerInRange t)) :
      TableEvent s { s with nl := s.nl.map fun n => { n with holdOff := f n } }
  | withdrawDelivered (x : StationId) (k : SourceIndex) (g : Generation) :
      TableEvent s (s.withdrawDelivered x k g)
  | completes (h : Handle) : TableEvent s (s.completeHandle h).1
  | activates {h : Handle} (hb : s.svt.best = some h) : TableEvent s (s.activate h)
  | threshold {n : Nat} (hn : n ≤ 16) : TableEvent s { s with svt := { s.svt with threshold := n } }

/-- A run of such events. -/
abbrev TableEvents : State → State → Prop := Relation.ReflTransGen TableEvent

/-- Only the three tables and the DROP alert may differ. -/
def State.tablesMoved (s t : State) : Prop := t = { s with
  st := t.st, svt := t.svt, nl := t.nl,
  lp := { s.lp with alerts := { s.lp.alerts with drop := t.lp.alerts.drop } } }

theorem State.tablesMoved_trans {s t u : State} (h : s.tablesMoved t) (h' : t.tablesMoved u) : s.tablesMoved u := by
  unfold State.tablesMoved at *
  rw [h', h]

theorem State.sourcesMoved.tablesMoved {s t : State} (h : s.sourcesMoved t) : s.tablesMoved t := by
  unfold State.tablesMoved
  rw [h]

theorem State.tablesMoved.sc {s t : State} (h : s.tablesMoved t) : t.sc = s.sc := by rw [h]
theorem State.tablesMoved.cs {s t : State} (h : s.tablesMoved t) : t.cs = s.cs := by rw [h]
theorem State.tablesMoved.liu {s t : State} (h : s.tablesMoved t) : t.liu = s.liu := by rw [h]
theorem State.tablesMoved.ts {s t : State} (h : s.tablesMoved t) : t.ts = s.ts := by rw [h]
theorem State.tablesMoved.pbe {s t : State} (h : s.tablesMoved t) : t.pbe = s.pbe := by rw [h]
theorem State.tablesMoved.cu {s t : State} (h : s.tablesMoved t) : t.cu = s.cu := by rw [h]
theorem State.tablesMoved.pins {s t : State} (h : s.tablesMoved t) : t.pins = s.pins := by rw [h]
theorem State.tablesMoved.ticks {s t : State} (h : s.tablesMoved t) : t.ticks = s.ticks := by rw [h]
theorem State.tablesMoved.pending {s t : State} (h : s.tablesMoved t) : t.pending = s.pending := by rw [h]
theorem State.tablesMoved.frame {s t : State} (h : s.tablesMoved t) : t.lp.frame = s.lp.frame := by rw [h]
theorem State.tablesMoved.input {s t : State} (h : s.tablesMoved t) : t.lp.input = s.lp.input := by rw [h]
theorem State.tablesMoved.conflict {s t : State} (h : s.tablesMoved t) :
    t.lp.alerts.conflict = s.lp.alerts.conflict := by rw [h]

theorem State.freeClosing_eq (s : State) (h : Handle) :
    s.freeClosing h = { s with svt := (s.freeClosing h).svt } := by
  unfold State.freeClosing; split <;> rfl

theorem State.setWithdrawSent_moved (s : State) (k : SourceIndex) (w : WithdrawSent) :
    s.sourceMoved k (s.setWithdrawSent k w) := by
  unfold State.setWithdrawSent
  split
  · exact State.setSource_moved s k _
  · exact State.sourceMoved_refl k s

theorem State.ownerTakesEnd_moved (s : State) (r : NoticeRef) (w : WithdrawSent) :
    s.tablesMoved (s.ownerTakesEnd r w) := by
  cases r with
  | done h => rw [State.ownerTakesEnd, State.freeClosing_eq]; rfl
  | withdraw k => exact (State.setWithdrawSent_moved s k w).1.tablesMoved

theorem State.dropNotice_moved (s : State) (r : NoticeRef) : s.tablesMoved (s.dropNotice r) :=
  State.tablesMoved_trans (t := (s.removeNotice r).setDrop true) rfl (State.ownerTakesEnd_moved _ r _)

theorem State.noticeAcknowledged_moved (s : State) (r : NoticeRef) : s.tablesMoved (s.noticeAcknowledged r) := by
  unfold State.noticeAcknowledged
  split
  · exact State.tablesMoved_trans (t := s.removeNotice r) rfl (State.ownerTakesEnd_moved _ r _)
  · rfl

theorem State.noticeUnsuccessful_moved (s : State) (r : NoticeRef) : s.tablesMoved (s.noticeUnsuccessful r) := by
  unfold State.noticeUnsuccessful
  split
  · split
    · exact State.dropNotice_moved s r
    · rfl
  · rfl

theorem State.helloReleasesSources_moved (s : State) (x : StationId) : s.sourcesMoved (s.helloReleasesSources x) :=
  foldl_sourcesMoved _ (State.helloReleasesSource_moved x) _ _

/-- A HELLO reaches each of the three tables for itself. -/
theorem State.helloDelivered_eq (s : State) (x : StationId) : s.helloDelivered x = { s.helloReleasesSources x with
    svt := allHandles.foldl (ServiceTable.helloReleases x) s.svt,
    nl := (s.helloReleasesSources x).nl.filter fun n => n.addressee != x } := by
  simp only [State.helloDelivered, State.removeNoticesTo, (State.helloReleasesSources_moved s x).svt]

theorem State.helloDelivered_moved (s : State) (x : StationId) : s.tablesMoved (s.helloDelivered x) := by
  have h := (State.helloReleasesSources_moved s x).tablesMoved
  rw [State.helloDelivered_eq]
  generalize s.helloReleasesSources x = u at h ⊢
  generalize allHandles.foldl (ServiceTable.helloReleases x) s.svt = table
  unfold State.tablesMoved at h ⊢
  rw [h]

theorem State.withdrawEntry_eq (s : State) (h : Handle) :
    s.withdrawEntry h = { s with svt := (s.withdrawEntry h).svt, nl := (s.withdrawEntry h).nl } := by
  unfold State.withdrawEntry; split <;> rfl

theorem State.withdrawDelivered_moved (s : State) (x : StationId) (k : SourceIndex) (g : Generation) :
    s.tablesMoved (s.withdrawDelivered x k g) := by
  unfold State.withdrawDelivered
  split
  · rw [State.withdrawEntry_eq]; rfl
  · rfl

theorem State.activate_eq (s : State) (h : Handle) : s.activate h = { s with svt := (s.activate h).svt } := by
  unfold State.activate; split <;> rfl

theorem TableEvent.moved {s t : State} (h : TableEvent s t) : s.tablesMoved t := by
  cases h with
  | request k => exact (State.requestEvent_moved s k).1.tablesMoved
  | withdraw k => exact (State.withdrawEvent_moved s k).1.tablesMoved
  | tick k => exact (State.tickSource_moved s k).1.tablesMoved
  | cancel k => exact (State.sourceMoved_trans (State.setSource_moved s k _) (State.cancelByState_moved _ k)).1.tablesMoved
  | arbitrated k won => exact (State.offerArbitrated_moved s k won).1.tablesMoved
  | placed k x => exact (State.offerPlaced_moved s k x).1.tablesMoved
  | notPlaced k => exact (State.offerNotPlaced_moved s k).1.tablesMoved
  | spreadEnds k m => exact (State.spreadRoundEnds_moved s k m).1.tablesMoved
  | fails k => exact (State.enterFailed_moved s k).1.tablesMoved
  | done x k g => exact (State.doneDelivered_moved s x k g).1.tablesMoved
  | hello x => exact State.helloDelivered_moved s x
  | acknowledged r => exact State.noticeAcknowledged_moved s r
  | unsuccessful r => exact State.noticeUnsuccessful_moved s r
  | dropped => exact State.dropNotice_moved s _
  | withdrawDelivered x k g => exact State.withdrawDelivered_moved s x k g
  | completes h => rw [State.completeHandle_moved]; rfl
  | activates hb => rw [State.activate_eq]; rfl
  | holdOffs | threshold => rfl

theorem TableEvents.moved {s t : State} (h : TableEvents s t) : s.tablesMoved t := by
  induction h with
  | refl => rfl
  | tail _ he ih => exact State.tablesMoved_trans ih he.moved

/-! Effects of a command -/

/-- The lines sampled at a tick, before the sources take their events (R42, R44). -/
def State.sampled (s : State) (levels : BitVec 16) : State := { s with
  liu := { lines := Vector.ofFn fun n => (s.lineStepAt levels n).state, prescaler := 0 },
  pins := { s.pins with lines := levels } }

/-- An offer frame `f` is over at the Claim Unit: the reservation is installed or released, and the rotation pointer
stands at `p` (R91, R94). -/
def State.offerClosed (s : State) (driven : List Bool) (claim : ClaimState) (installs : Bool) (f : Frame)
    (p : StationId) : State :=
  let u := ({ s.drove driven with pbe := { s.pbe with claim := claim } } : State).closeClaim installs f
  { u with cu := { u.cu with pointer := p } }

/-- Everything that a command can do, but for what a port frame changes by itself. -/
inductive Effect (c : Instr) (s : State) : State → Prop
  | stands : Effect c s s
  | resets (pins : Pins) (n : Nat) (hc : c.forcesReset = true ∨ ∃ t, c = .reset t)
      (hp : pins.srqLow = false ∧ pins.alertLow = false ∧ pins.lsdo = s.lsdoInReset) :
      Effect c s { s.enterReset with pins := pins, resetPeriods := n }
  | endsReset (straps : StationId) (hs : s.sc.station = .reset) : Effect c s (s.endReset straps)
  | stores (cs : ConfigStore) (hc : (∃ a, c = .setStation a) ∨ (∃ a, c = .setLine a) ∨ ∃ a, c = .setRoute a)
      (hs : s.sc.station = .config) (hr : StoreInRange s → StoreInRange { s with cs := cs }) :
      Effect c s { s with cs := cs }
  | commits (hs : s.sc.station = .config) : Effect c s s.enterJoin.settle
  | rejoins (hs : s.sc.station.takesPart = true) :
      Effect c s (({ s.enterJoin.setDrop false with lp := { (s.enterJoin.setDrop false).lp with
        input := [], overflow := false, outPosition := 0 } } : State).settle)
  | parks (hs : s.sc.station = .run) : Effect c s ({ s with sc := { s.sc with station := .parked } } : State).settle
  | unparks (hs : s.sc.station = .parked) :
      Effect c s ({ s with sc := { s.sc with station := .run } } : State).settle
  | acknowledges (hs : s.sc.station.takesPart = true) : Effect c s (s.setDrop false).settle
  | works {u : State} (hs : s.sc.station.takesPart = true) (hu : TableEvents s u) : Effect c s u.settle
  | cancels {u : State} (k : SourceIndex) (hs : s.sc.station.takesPart = true)
      (hu : TableEvents (s.lineDisarmed k) u) : Effect c s u.settle
  | ticks {u : State} (levels : BitVec 16) (hs : s.sc.station.takesPart = true)
      (hu : TableEvents (s.sampled levels) u) :
      Effect c s ({ u.tickHello with ticks := u.tickHello.ticks + 1 } : State).settle
  | debounces {u : State} (n : LineIndex) (l : LineState) (levels : BitVec 16)
      (hs : s.sc.station.takesPart = true) (hl : l.count ≤ 4)
      (hu : TableEvents { s.setLineState n l with pins := { s.pins with lines := levels } } u) : Effect c s u.settle
  | expires (hs : s.sc.station.takesPart = true) (f : Notice → Option Nat)
      (hf : ∀ n t, f n = some t → ∃ t', n.holdOff = some t' ∧ (timerInRange t' → timerInRange t)) :
      Effect c s { s with nl := s.nl.map fun n => { n with holdOff := f n } }
  | retries (hs : s.sc.station.takesPart = true) :
      Effect c s { s with sc := { s.sc with helloRetry := none, helloPending := true } }
  | counts (driven : List Bool) (synchronised : Bool) (integration idle : Nat) (hs : s.sc.station.takesPart = true)
      (hi : s.pbe.integrationCount ≤ 96 → integration ≤ 96) (hd : s.pbe.idleCount ≤ 11 → idle ≤ 11) :
      Effect c s { s.drove driven with pbe := { s.pbe with
        synchronised := synchronised, integrationCount := integration, idleCount := idle } }
  | enters (h : FrameInHand) (hs : s.sc.station.takesPart = true) (hr : s.pbe.role = .noRole)
      (hh : s.chooseFrame = some h) :
      Effect c s { s.drove [false] with
        ts := { inHand := some h },
        pbe := { s.pbe with role := .contender, current := [false], driving := true } }
  | follows (hs : s.sc.station.takesPart = true) (hr : s.pbe.role = .noRole) :
      Effect c s { s.drove [true] with
        pbe := { s.pbe with role := .receiver, current := [false], driving := false } }
  | hears (field : BitVec 10) (hs : s.sc.station.takesPart = true) (hl : s.pbe.current.length = 1) :
      Effect c s { s.drove (List.replicate 10 true) with
        pbe := { s.pbe with current := s.pbe.current ++ fieldBits field } }
  | arbitrates {u : State} (h : FrameInHand) (driven current : List Bool) (won driving : Bool)
      (hs : s.sc.station.takesPart = true) (hl : s.pbe.current.length = 1) (hi : s.ts.inHand = some h)
      (hu : TableEvents { s.drove driven with
        ts := { inHand := if won then some h else none },
        pbe := { s.pbe with
          role := if won then .sender else .receiver, current := current, driving := driving } } u) :
      Effect c s u.settle
  | halts (driven : List Bool) (hs : s.sc.station.takesPart = true) : Effect c s (s.drove driven).enterHalt
  | abandons (driven : List Bool) (hs : s.sc.station.takesPart = true) (hl : s.pbe.current.length = 11) :
      Effect c s (s.drove driven).endFrame
  | decides (samples : List Bool) (f : Frame) (hg : s.spanEnd samples = .good f) (ho : f.offer.isSome = true) :
      Effect c s { (s.takeDecision f).drove (s.spanDrive samples) with
        pbe := { (s.takeDecision f).pbe with current := s.pbe.current ++ samples, driving := false } }
  | ends {u : State} (driven : List Bool) (hs : s.sc.station.takesPart = true) (hl : s.pbe.current.length = 11)
      (hu : TableEvents (s.drove driven) u) : Effect c s u.endFrame.settle
  | helloDiscarded (driven : List Bool) (hs : s.sc.station.takesPart = true) (hl : s.pbe.current.length = 11) :
      Effect c s ({ s.drove driven with
        sc := { s.sc with helloPending := false, helloRetry := some s.cs.retryDelay.toNat } } : State).endFrame.settle
  | helloSent (driven : List Bool) (presence : StationMask) (hs : s.sc.station.takesPart = true)
      (hl : s.pbe.current.length = 11) :
      Effect c s ({ s.drove driven with
        sc := { s.sc with presence := presence, helloPending := false, station := .run } } : State).endFrame.settle
  | offerEnds {u : State} (driven : List Bool) (claim : ClaimState) (installs : Bool) (f : Frame) (p : StationId)
      (hd : s.decidedFrame = some f) (hu : TableEvents (s.offerClosed driven claim installs f p) u) :
      Effect c s u.endFrame.settle
  | reports {u : State} (hs : s.sc.station.takesPart = true) (hu : TableEvents s u) :
      Effect c s u.markReported.settle

end Sys2Proof.Machine
end

section
namespace Sys2Proof.Machine

/-! Runs of events that the commands are made of -/

theorem State.tickSource_of_due {s : State} {k : SourceIndex} (h : s.backoffDue k = true) :
    s.tickSource k = s.backoffExpires k := by
  unfold State.backoffDue at h
  unfold State.tickSource
  split at h
  · exact if_pos (of_decide_eq_true h)
  · cases h

/-- A line delivers an event only where its route is enabled (R52). -/
theorem State.enabled_of_lineEvent {s : State} {n : LineIndex} {step : LineStep} {e : LineEvent}
    (h : s.lineEvent n step = some e) : (s.route (sourceOf n)).enabled = true := by
  by_contra hn
  simp [State.lineEvent, Bool.eq_false_iff.mpr hn] at h

theorem sourceOf_of_lineOf {k : SourceIndex} {n : LineIndex} (h : lineOf k = some n) : sourceOf n = k := by
  unfold lineOf at h
  split at h
  · cases h; rfl
  · cases h

theorem State.takeLineEvent_events (s : State) (n : LineIndex) (step : LineStep) :
    TableEvents s (s.takeLineEvent (sourceOf n) (s.lineEvent n step)) := by
  cases he : s.lineEvent n step with
  | none => exact .refl
  | some e =>
    cases e with
    | request => exact .single (.request _ (State.enabled_of_lineEvent he))
    | withdraw => exact .single (.withdraw _)

theorem State.tickSourceWith_events (step : LineIndex → LineStep) (s : State) (k : SourceIndex) :
    TableEvents s (State.tickSourceWith step s k) := by
  have hroute {e} (he : ((lineOf k).bind fun n => s.lineEvent n (step n)) = some e) : (s.route k).enabled = true := by
    obtain ⟨n, hn, he⟩ := Option.bind_eq_some_iff.mp he
    exact sourceOf_of_lineOf hn ▸ State.enabled_of_lineEvent he
  unfold State.tickSourceWith
  split
  next he _ =>
    have hen := hroute he
    split
    · exact .tail (.single (.request k hen)) (.tick k)
    · refine .tail (.single (.tick k)) (.request k ?_)
      rw [State.route, (State.tickSource_moved s k).1.cs]
      exact hen
  next =>
    refine .tail ?_ (.tick k)
    cases he : (lineOf k).bind fun n => s.lineEvent n (step n) with
    | none => exact .refl
    | some e =>
      cases e with
      | request => exact .single (.request k (hroute he))
      | withdraw => exact .single (.withdraw k)

theorem foldl_events {f : State → SourceIndex → State} (h : ∀ s k, TableEvents s (f s k)) (ks : List SourceIndex)
    (s : State) : TableEvents s (ks.foldl f s) := by
  induction ks generalizing s with
  | nil => exact .refl
  | cons k ks ih => exact (h s k).trans (ih _)

theorem tickTimer_eq_some {timer : Option Nat} {t : Nat} (h : tickTimer timer = some t) :
    ∃ t', timer = some t' ∧ (timerInRange t' → timerInRange t) := by
  cases timer with
  | none => cases h
  | some t' =>
    simp only [tickTimer] at h
    split at h
    · cases h
    · cases h; exact ⟨t', rfl, fun h => ⟨by omega, by have := h.2; omega⟩⟩

/-- A tick is a run of events on the sampled lines, and the HELLO retry timer's own tick. -/
theorem State.tick_events (s : State) (levels : BitVec 16) : ∃ u, TableEvents (s.sampled levels) u ∧
    s.tick levels = ({ u.tickHello with ticks := u.tickHello.ticks + 1 } : State).settle :=
  ⟨(allSources.foldl (State.tickSourceWith (s.lineStepAt levels)) (s.sampled levels)).tickNotices,
    .tail (foldl_events (State.tickSourceWith_events _) _ _)
      (.holdOffs (fun n => tickTimer n.holdOff) fun _ _ => tickTimer_eq_some),
    by unfold State.tick State.sampled; rfl⟩

theorem State.reportNotice_events (s : State) (i : Item) (acknowledged : Bool) :
    TableEvents s (s.reportNotice i acknowledged) := by
  cases i with
  | notice r =>
    cases acknowledged with
    | true => exact .single (.acknowledged r)
    | false => exact .single (.unsuccessful r)
  | hello | offer | reported => exact .refl

/-! The effect of each command -/

/-- What the command does is an effect, on the port's frame as it may have moved. -/
def State.does (s : State) (c : Instr) (t : State) : Prop :=
  ∃ u v, s.portMoved u ∧ Effect c u v ∧ v.portMoved t

theorem Effect.does {c : Instr} {s t : State} (h : Effect c s t) : s.does c t :=
  ⟨s, t, s.portMoved_refl, h, t.portMoved_refl⟩

theorem State.portMoved.does {c : Instr} {s t : State} (h : s.portMoved t) : s.does c t :=
  ⟨s, s, s.portMoved_refl, .stands, h⟩

/-- A command answers a next state, by one of its effects. -/
def State.acts (s : State) (c : Instr) : Prop := ∃ t, exec c s = .next t ∧ s.does c t

/-- A row that changes nothing where its event does not arise (log 2). -/
theorem Effect.guarded {c : Instr} {s t : State} {p : Prop} [Decidable p] (h : p → Effect c s t) :
    Effect c s (if p then t else s) := by
  split
  · exact h ‹_›
  · exact .stands

/-! The board and the tick -/

theorem acts_powerUp (s : State) : s.acts .powerUp :=
  ⟨_, rfl, (Effect.resets (c := .powerUp) (s := s)
    { s.enterReset.pins with vddLow := true } 0 (.inl rfl) ⟨rfl, rfl, rfl⟩).does⟩

theorem acts_resetPinLow (s : State) : s.acts .resetPinLow :=
  ⟨_, rfl, (Effect.resets (c := .resetPinLow) (s := s)
    { s.enterReset.pins with resetLow := true } s.resetPeriods (.inl rfl) ⟨rfl, rfl, rfl⟩).does⟩

theorem acts_vddBelowOperatingLimit (s : State) : s.acts .vddBelowOperatingLimit :=
  ⟨_, rfl, (Effect.resets (c := .vddBelowOperatingLimit) (s := s)
    { s.enterReset.pins with vddLow := true } s.resetPeriods (.inl rfl) ⟨rfl, rfl, rfl⟩).does⟩

theorem acts_endOfFullReset (straps : StationId) (s : State) : s.acts (.endOfFullReset straps) :=
  ⟨_, rfl, (Effect.guarded (.endsReset straps)).does⟩

theorem effect_tick (c : Instr) {s : State} (levels : BitVec 16) (hs : s.sc.station.takesPart = true) :
    Effect c s (s.tick levels) := by
  obtain ⟨u, hu, ht⟩ := s.tick_events levels
  exact ht ▸ .ticks levels hs hu

theorem acts_stationTick (levels : BitVec 16) (s : State) : s.acts (.stationTick levels) :=
  ⟨_, rfl, (Effect.guarded (effect_tick _ levels)).does⟩

theorem nextCount_le (c : LineSetting) (l : LineState) (active : Bool) : nextCount c l active ≤ 4 := by
  unfold nextCount
  split
  · exact Nat.min_le_right _ _
  · exact Nat.zero_le _

theorem acts_debounceQualified (n : LineIndex) (s : State) : s.acts (.debounceQualified n) := by
  refine ⟨_, rfl, (Effect.guarded fun h => ?_).does⟩
  simp only [Bool.and_eq_true] at h
  exact .debounces n _ _ h.1.1 (nextCount_le _ _ _) (State.takeLineEvent_events _ n _)

theorem acts_backoffExpiry (k : SourceIndex) (s : State) : s.acts (.backoffExpiry k) := by
  refine ⟨_, rfl, (Effect.guarded fun h => ?_).does⟩
  obtain ⟨hs, hdue⟩ := Bool.and_eq_true_iff.mp h
  exact State.tickSource_of_due hdue ▸ .works hs (.single (.tick k))

theorem acts_holdOffExpiry (r : NoticeRef) (s : State) : s.acts (.holdOffExpiry r) := by
  refine ⟨_, rfl, (Effect.guarded fun hs => ?_).does⟩
  have hmap : (s.nl.map fun n => if n.ref = r && n.holdOff = some 1 then { n with holdOff := none } else n) =
      s.nl.map fun n => { n with holdOff := if n.ref = r && n.holdOff = some 1 then none else n.holdOff } :=
    List.map_congr_left fun n _ => by split <;> rfl
  rw [hmap]
  refine .expires hs _ fun n t ht => ?_
  split at ht
  · cases ht
  · exact ⟨t, ht, id⟩

theorem acts_helloRetryExpiry (s : State) : s.acts .helloRetryExpiry := by
  refine ⟨_, rfl, (Effect.guarded fun h => ?_).does⟩
  exact .retries (Bool.and_eq_true_iff.mp h).1

/-! Between frames -/

theorem acts_integrationComplete (samples : List Bool) (s : State) : s.acts (.integrationComplete samples) := by
  refine ⟨_, rfl, (Effect.guarded fun h => ?_).does⟩
  obtain ⟨hs, -⟩ := Bool.and_eq_true_iff.mp h
  refine .counts _ _ _ _ hs (foldl_integrateSample_le samples _) fun hd => ?_
  split
  · exact le_refl 11
  · exact hd

theorem acts_busIdle (samples : List Bool) (s : State) : s.acts (.busIdle samples) := by
  refine ⟨_, rfl, (Effect.guarded fun h => ?_).does⟩
  simp only [Bool.and_eq_true] at h
  exact .counts _ s.pbe.synchronised s.pbe.integrationCount _ h.1.1 id (foldl_idleSample_le samples _)

theorem acts_startOpportunity (sample : Bool) (s : State) : s.acts (.startOpportunity sample) := by
  refine ⟨_, rfl, (Effect.guarded fun h => ?_).does⟩
  simp only [State.atStartOpportunity, Bool.and_eq_true, beq_iff_eq] at h
  obtain ⟨⟨⟨hs, -⟩, hr⟩, -⟩ := h
  split
  next f hf => exact .enters f hs hr hf
  next =>
    cases sample with
    | true => exact .counts [true] s.pbe.synchronised s.pbe.integrationCount s.pbe.idleCount hs id id
    | false => exact .follows hs hr

theorem State.reportArbitration_events (s : State) (i : Item) (won : Bool) :
    TableEvents s (s.reportArbitration i won) := by
  cases i with
  | offer k => exact .single (.arbitrated k won)
  | hello | notice | reported => exact .refl

theorem acts_arbitrationReport (field : BitVec 10) (s : State) : s.acts (.arbitrationReport field) := by
  refine ⟨_, rfl, (Effect.guarded fun h => ?_).does⟩
  obtain ⟨hs, hl⟩ := Bool.and_eq_true_iff.mp h
  have hl : s.pbe.current.length = 1 := of_decide_eq_true hl
  split
  next f _ hi => exact .arbitrates f _ _ _ _ hs hl hi (State.reportArbitration_events _ _ _)
  next => exact .hears field hs hl
  next => exact .stands

/-! Spans from bit 11 on -/

theorem acts_bitCompareMismatch (samples : List Bool) (s : State) : s.acts (.bitCompareMismatch samples) := by
  refine ⟨_, rfl, Effect.does ?_⟩
  split
  next h => exact .halts _ (State.takesPart_of_spanEnd h (by simp)).1
  next => exact .stands

theorem acts_frameAbandoned (samples : List Bool) (s : State) : s.acts (.frameAbandoned samples) := by
  refine ⟨_, rfl, Effect.does ?_⟩
  split
  next h => exact .abandons _ (State.takesPart_of_spanEnd h (by simp)).1 (State.takesPart_of_spanEnd h (by simp)).2
  next => exact .stands

theorem acts_invalidKindFrameEnd (samples : List Bool) (s : State) : s.acts (.invalidKindFrameEnd samples) := by
  refine ⟨_, rfl, Effect.does ?_⟩
  split
  next h => exact .abandons _ (State.takesPart_of_spanEnd h (by simp)).1 (State.takesPart_of_spanEnd h (by simp)).2
  next => exact .stands

theorem acts_decision (samples : List Bool) (s : State) : s.acts (.decision samples) := by
  cases hg : s.spanEnd samples with
  | good f =>
    cases ho : f.offer with
    | some o => exact ⟨_, exec_decision hg ho, (Effect.decides samples f hg (by rw [ho]; rfl)).does⟩
    | none =>
      have hx : exec (.decision samples) s = .next s := by
        show execDecision samples s = _
        simp only [execDecision, hg, ho]
        rfl
      exact ⟨s, hx, Effect.stands.does⟩
  | _ =>
    have hx : exec (.decision samples) s = .next s := by
      show execDecision samples s = _
      simp only [execDecision, hg]
    exact ⟨s, hx, Effect.stands.does⟩

theorem acts_frameDiscardedByErr (samples : List Bool) (s : State) : s.acts (.frameDiscardedByErr samples) := by
  refine ⟨_, rfl, Effect.does ?_⟩
  split
  next hd =>
    obtain ⟨hs, hl⟩ := State.takesPart_of_spanEnd hd (by simp)
    dsimp only
    split
    next h _ _ =>
      unfold State.reportDiscard
      split
      next => exact .helloDiscarded _ hs hl
      next r _ => exact .ends _ hs hl (.single (.unsuccessful r))
      next k _ =>
        split
        next => exact .ends _ hs hl (.single (.spreadEnds k 0))
        next => exact .ends _ hs hl (.single (.notPlaced k))
      next => exact .ends _ hs hl .refl
    next => exact .ends _ hs hl .refl
  next => exact .stands

/-! Completions -/

theorem acts_helloCompletion (samples : List Bool) (presence : StationMask) (s : State) :
    s.acts (.helloCompletion samples presence) := by
  refine ⟨_, rfl, Effect.does ?_⟩
  split
  next x hg =>
    obtain ⟨hs, hl⟩ := State.takesPart_of_spanEnd hg (by simp)
    dsimp only
    split
    next => exact .halts _ hs
    next =>
      split
      next => exact .helloSent _ _ hs hl
      all_goals exact .ends _ hs hl (.single (.hello x))
  next => exact .stands

/-- The sender's own Notice List takes its outcome before the addressee's tables take the notice (R20). -/
def State.senderTold (s : State) (acknowledged : Bool) : State :=
  match s.sentItem with
  | some i => s.reportNotice i acknowledged
  | none => s

theorem State.senderTold_events (s : State) (acknowledged : Bool) : TableEvents s (s.senderTold acknowledged) := by
  unfold State.senderTold
  split
  · exact State.reportNotice_events _ _ _
  · exact .refl

theorem acts_doneCompletion (samples : List Bool) (ack : Bool) (s : State) : s.acts (.doneCompletion samples ack) := by
  refine ⟨_, rfl, Effect.does ?_⟩
  split
  next x c a k g o hg =>
    obtain ⟨hs, hl⟩ := State.takesPart_of_spanEnd hg (by simp)
    dsimp only
    split
    next => exact .halts _ hs
    next =>
      refine .ends (s.spanDrive samples ++ [!(a == s.sc.id)]) hs hl
        (.trans (State.senderTold_events _ (a == s.sc.id || !ack)) ?_)
      split
      · exact .single (.done x k g)
      · exact .refl
  next => exact .stands

theorem acts_withdrawCompletion (samples : List Bool) (ack : Bool) (s : State) :
    s.acts (.withdrawCompletion samples ack) := by
  refine ⟨_, rfl, Effect.does ?_⟩
  split
  next x c a k g hg =>
    obtain ⟨hs, hl⟩ := State.takesPart_of_spanEnd hg (by simp)
    dsimp only
    split
    next => exact .halts _ hs
    next =>
      refine .ends (s.spanDrive samples ++ [!(a == s.sc.id)]) hs hl
        (.trans (State.senderTold_events _ (a == s.sc.id || !ack)) ?_)
      split
      · exact .single (.withdrawDelivered x k g)
      · exact .refl
  next => exact .stands

theorem acts_noticeDrop (r : NoticeRef) (s : State) : s.acts (.noticeDrop r) := by
  refine ⟨_, rfl, Effect.does ?_⟩
  split
  next hn =>
    refine Effect.guarded fun h => ?_
    simp only [Bool.and_eq_true] at h
    exact .reports h.1.1 (.single (.dropped hn))
  next => exact .stands

theorem acts_sourceFailed (k : SourceIndex) (s : State) : s.acts (.sourceFailed k) := by
  refine ⟨_, rfl, (Effect.guarded fun h => ?_).does⟩
  simp only [Bool.and_eq_true, beq_iff_eq, Bool.not_eq_true'] at h
  obtain ⟨⟨⟨⟨hs, -⟩, ho⟩, hc⟩, -⟩ := h
  exact .reports hs (.single (.fails k ho hc))

/-- The source whose offer a station is the sender of has its frame in hand, and that is the frame decided on. -/
theorem State.inHand_of_sentItem {s : State} {f : Frame} {j : SourceIndex} (hd : s.decidedFrame = some f)
    (hi : s.sentItem = some (.offer j)) : s.ts.inHand = some { item := .offer j, frame := f } := by
  unfold State.sentItem at hi
  split at hi
  next hr =>
    obtain ⟨h, hh, hj⟩ := Option.map_eq_some_iff.mp hi
    simp only [State.decidedFrame, beq_iff_eq.mp hr, hh] at hd
    split at hd
    · cases hd; rw [hh, ← hj]
    · cases hd
  next => cases hi

theorem State.closeClaim_moved (s : State) (installs : Bool) (f : Frame) : s.closeClaim installs f =
    { s with svt := (s.closeClaim installs f).svt, cu := { s.cu with reservation := none, role := .noRole } } := by
  unfold State.closeClaim State.install
  cases f.offer with
  | none => rfl
  | some o =>
    cases installs with
    | false => rfl
    | true => cases s.cu.reservation <;> rfl

theorem State.offerClosed_pointer (s : State) (driven : List Bool) (claim : ClaimState) (installs : Bool) (f : Frame) :
    s.offerClosed driven claim installs f s.cu.pointer =
      ({ s.drove driven with pbe := { s.pbe with claim := claim } } : State).closeClaim installs f := by
  unfold State.offerClosed
  rw [State.closeClaim_moved]
  rfl

theorem State.offerClosed_ts (s : State) (driven : List Bool) (claim : ClaimState) (installs : Bool) (f : Frame)
    (p : StationId) : (s.offerClosed driven claim installs f p).ts = s.ts := by
  unfold State.offerClosed
  rw [State.closeClaim_moved]
  rfl

/-- The end of the offer of source j reaches the Source Table: placed at a station, or not placed (R67, R68). -/
def State.offerReported (s : State) (item : Option Item) (placed : Option StationId) : State :=
  match item, placed with
  | some (.offer j), some x => s.offerPlaced j x
  | some (.offer j), none => s.offerNotPlaced j
  | _, _ => s

/-- A DIRECT offer with this station's ID that it did not send halts it (R12, R105). -/
theorem exec_direct_twin {s : State} (accept : Bool) {x target : StationId} {c : ServiceClass} {k : SourceIndex}
    {g : Generation} {v : Byte} {b : Bool} (hd : s.decidedFrame = some (.direct x c target k g v b))
    (ht : s.foreignTwin (.direct x c target k g v b) = true) :
    exec (.directOfferCompletion accept) s = .next (s.drove [!(s.cu.role == .accepting)]).enterHalt := by
  show execDirectOfferCompletion accept s = _
  simp only [execDirectOfferCompletion, hd, ht, if_true]

/-- The Claim Unit closes its part in a DIRECT offer, and the sender's source takes the answer (R67, R68, R91). -/
theorem exec_direct {s : State} (accept : Bool) {x target : StationId} {c : ServiceClass} {k : SourceIndex}
    {g : Generation} {v : Byte} {b : Bool} (hd : s.decidedFrame = some (.direct x c target k g v b))
    (ht : s.foreignTwin (.direct x c target k g v b) = false) :
    exec (.directOfferCompletion accept) s =
      .next ((s.offerClosed [!(s.cu.role == .accepting)] s.pbe.claim (s.cu.role == .accepting)
        (.direct x c target k g v b) s.cu.pointer).offerReported s.sentItem
          (if (s.cu.role == .accepting) || !accept then some target else none)).endFrame.settle := by
  have hsent : (s.drove [!(s.cu.role == .accepting)]).sentItem = s.sentItem := rfl
  show execDirectOfferCompletion accept s = _
  rw [State.offerClosed_pointer]
  simp only [execDirectOfferCompletion, hd, ht, Bool.false_eq_true, if_false, hsent]
  cases s.sentItem with
  | none => rfl
  | some i =>
    cases i with
    | offer j => cases (s.cu.role == .accepting) || !accept <;> rfl
    | hello | notice | reported => rfl

/-- The claim state after the claim-word window, and what the station drove in it (R18). -/
def State.claimEnd (s : State) (word : BitVec 14) : ClaimState × List Bool :=
  match s.cu.role with
  | .claiming w => (claimOutcome w word, (contend (fieldBits w) (fieldBits word)).2)
  | .noRole | .declined | .accepting => (.notClaiming, List.replicate 14 true)

theorem exec_pool_twin {s : State} (word : BitVec 14) {x p : StationId} {m : StationMask} {c : ServiceClass}
    {k : SourceIndex} {g : Generation} {v : Byte} {b : Bool} (hd : s.decidedFrame = some (.pool x c m p k g v b))
    (ht : s.foreignTwin (.pool x c m p k g v b) = true) :
    exec (.poolOfferCompletion word) s = .next (s.drove (s.claimEnd word).2).enterHalt := by
  show execPoolOfferCompletion word s = _
  simp only [execPoolOfferCompletion, hd, ht, if_true, State.claimEnd]
  cases s.cu.role <;> rfl

/-- The Claim Unit closes its part in a POOL offer, the rotation pointer follows an award, and the sender's source
takes the result (R18, R67, R68, R91, R94). -/
theorem exec_pool {s : State} (word : BitVec 14) {x p : StationId} {m : StationMask} {c : ServiceClass}
    {k : SourceIndex} {g : Generation} {v : Byte} {b : Bool} (hd : s.decidedFrame = some (.pool x c m p k g v b))
    (ht : s.foreignTwin (.pool x c m p k g v b) = false) :
    exec (.poolOfferCompletion word) s =
      .next ((s.offerClosed (s.claimEnd word).2 (s.claimEnd word).1 ((s.claimEnd word).1 == .won)
        (.pool x c m p k g v b) ((readResult p word).getD s.cu.pointer)).offerReported s.sentItem
          (readResult p word)).endFrame.settle := by
  have hsent (d : List Bool) : (s.drove d).sentItem = s.sentItem := rfl
  show execPoolOfferCompletion word s = _
  cases hr : s.cu.role
  all_goals
    simp only [execPoolOfferCompletion, State.claimEnd, hd, ht, Bool.false_eq_true, if_false, hsent, hr]
    cases readResult p word with
    | some w => rfl
    | none => rw [Option.getD_none, State.offerClosed_pointer]; rfl

theorem exec_spread_twin {s : State} (mask : StationMask) {x : StationId} {m : StationMask} {c : ServiceClass}
    {k : SourceIndex} {g : Generation} {v : Byte} (hd : s.decidedFrame = some (.spread x c m k g v))
    (ht : s.foreignTwin (.spread x c m k g v) = true) :
    exec (.spreadOfferCompletion mask) s =
      .next (s.drove (fieldBits (positionDrive (s.cu.role == .accepting) s.sc.id))).enterHalt := by
  show execSpreadOfferCompletion mask s = _
  simp only [execSpreadOfferCompletion, hd, ht, if_true]

/-- The end of a SPREAD round of source j reaches the Source Table (R71). -/
def State.roundReported (s : State) (item : Option Item) (accepted : StationMask) : State :=
  match item with
  | some (.offer j) => s.spreadRoundEnds j accepted
  | _ => s

/-- The Claim Unit closes its part in a SPREAD offer, and the sender's source loses the stations that answered (R71,
R91). -/
theorem exec_spread {s : State} (mask : StationMask) {x : StationId} {m : StationMask} {c : ServiceClass}
    {k : SourceIndex} {g : Generation} {v : Byte} (hd : s.decidedFrame = some (.spread x c m k g v))
    (ht : s.foreignTwin (.spread x c m k g v) = false) :
    exec (.spreadOfferCompletion mask) s =
      .next ((s.offerClosed (fieldBits (positionDrive (s.cu.role == .accepting) s.sc.id)) s.pbe.claim
        (s.cu.role == .accepting) (.spread x c m k g v) s.cu.pointer).roundReported s.sentItem
          (~~~(mask &&& positionDrive (s.cu.role == .accepting) s.sc.id))).endFrame.settle := by
  have hsent (d : List Bool) : (s.drove d).sentItem = s.sentItem := rfl
  show execSpreadOfferCompletion mask s = _
  rw [State.offerClosed_pointer]
  simp only [execSpreadOfferCompletion, hd, ht, Bool.false_eq_true, if_false, hsent]
  cases s.sentItem with
  | none => rfl
  | some i => cases i <;> rfl


theorem State.offerReported_events {s : State} {f : Frame} {item : Option Item} {placed : Option StationId}
    (hi : ∀ j, item = some (.offer j) → s.ts.inHand = some { item := .offer j, frame := f })
    (hf : f.kind ≠ .spread) : TableEvents s (s.offerReported item placed) := by
  unfold State.offerReported
  split
  next j x => exact .single (.placed j x (hi j rfl) hf)
  next j => exact .single (.notPlaced j)
  next => exact .refl

theorem State.roundReported_events (s : State) (item : Option Item) (accepted : StationMask) :
    TableEvents s (s.roundReported item accepted) := by
  unfold State.roundReported
  split
  · exact .single (.spreadEnds _ accepted)
  · exact .refl

theorem acts_directOfferCompletion (accept : Bool) (s : State) : s.acts (.directOfferCompletion accept) := by
  by_cases hd : ∃ x c t k g v b, s.decidedFrame = some (.direct x c t k g v b)
  · obtain ⟨x, c, t, k, g, v, b, hd⟩ := hd
    cases ht : s.foreignTwin (.direct x c t k g v b) with
    | true => exact ⟨_, exec_direct_twin accept hd ht, (Effect.halts _ (State.takesPart_of_decidedFrame hd).1).does⟩
    | false =>
      refine ⟨_, exec_direct accept hd ht, (Effect.offerEnds _ _ _ _ _ hd (State.offerReported_events
        (f := .direct x c t k g v b) (fun j hj => ?_) (by simp [Frame.kind]))).does⟩
      rw [State.offerClosed_ts]
      exact State.inHand_of_sentItem hd hj
  · refine ⟨s, ?_, Effect.stands.does⟩
    show execDirectOfferCompletion accept s = _
    unfold execDirectOfferCompletion
    split
    next hd' => exact absurd ⟨_, _, _, _, _, _, _, hd'⟩ hd
    next => rfl

theorem acts_poolOfferCompletion (word : BitVec 14) (s : State) : s.acts (.poolOfferCompletion word) := by
  by_cases hd : ∃ x c m p k g v b, s.decidedFrame = some (.pool x c m p k g v b)
  · obtain ⟨x, c, m, p, k, g, v, b, hd⟩ := hd
    cases ht : s.foreignTwin (.pool x c m p k g v b) with
    | true => exact ⟨_, exec_pool_twin word hd ht, (Effect.halts _ (State.takesPart_of_decidedFrame hd).1).does⟩
    | false =>
      refine ⟨_, exec_pool word hd ht, (Effect.offerEnds _ _ _ _ _ hd (State.offerReported_events
        (f := .pool x c m p k g v b) (fun j hj => ?_) (by simp [Frame.kind]))).does⟩
      rw [State.offerClosed_ts]
      exact State.inHand_of_sentItem hd hj
  · refine ⟨s, ?_, Effect.stands.does⟩
    show execPoolOfferCompletion word s = _
    unfold execPoolOfferCompletion
    split
    next hd' => exact absurd ⟨_, _, _, _, _, _, _, _, hd'⟩ hd
    next => rfl

theorem acts_spreadOfferCompletion (mask : StationMask) (s : State) : s.acts (.spreadOfferCompletion mask) := by
  by_cases hd : ∃ x c m k g v, s.decidedFrame = some (.spread x c m k g v)
  · obtain ⟨x, c, m, k, g, v, hd⟩ := hd
    cases ht : s.foreignTwin (.spread x c m k g v) with
    | true => exact ⟨_, exec_spread_twin mask hd ht, (Effect.halts _ (State.takesPart_of_decidedFrame hd).1).does⟩
    | false =>
      exact ⟨_, exec_spread mask hd ht,
        (Effect.offerEnds _ _ _ _ _ hd (State.roundReported_events _ _ _)).does⟩
  · refine ⟨s, ?_, Effect.stands.does⟩
    show execSpreadOfferCompletion mask s = _
    unfold execSpreadOfferCompletion
    split
    next hd' => exact absurd ⟨_, _, _, _, _, _, hd'⟩ hd
    next => rfl

/-! The Local Port -/

/-- A port command does what its body does on the clocked state, and leaves its answer. -/
theorem State.acts_port {s : State} {c : Instr} {code : Byte} {t : PortTail} {body : List Byte → State → Reply}
    (hx : exec c s = .next (s.portCommand code t body))
    (hb : ∀ u : State, admittedIn code u.sc.station = true → Effect c u (body t.bytes u).state) : s.acts c := by
  refine ⟨_, hx, ?_⟩
  have hclock := State.portMoved_clockFrame s (portFrameBits code t) 0
  obtain h | ⟨r, h⟩ | ⟨-, ha, h⟩ := s.portCommand_cases code t body
  · exact h ▸ hclock.does
  · exact h ▸ (State.portMoved_trans hclock (State.portMoved_respond _ _ _ _)).does
  · exact h ▸ ⟨_, _, hclock, hb _ ha, State.portMoved_respond _ _ _ _⟩

theorem acts_unknownCommand (bits : List Bool) (s : State) : s.acts (.unknownCommand bits) := by
  have hclock := State.portMoved_clockFrame s bits 0
  have hanswer (r : ResultCode) (code : Option Byte) := State.portMoved_trans hclock (State.portMoved_respond _ r code [])
  refine ⟨_, rfl, ?_⟩
  split
  · exact hclock.does
  · dsimp only
    split
    · exact (hanswer _ _).does
    · split
      · exact Effect.stands.does
      · split
        · exact (hanswer _ _).does
        · exact (hanswer _ _).does

theorem acts_commandFrameBegins (s : State) : s.acts .commandFrameBegins := by
  refine ⟨_, rfl, ?_⟩
  split
  · refine State.portMoved.does ⟨rfl, fun _ => ?_, fun _ => Nat.zero_le _⟩
    dsimp only
    split <;> simp
  · exact Effect.stands.does

theorem acts_frameNotTaken (f : UntakenFrame) (s : State) : s.acts (.frameNotTaken f) := by
  refine ⟨_, rfl, ?_⟩
  split
  · exact (State.portMoved_clockFrame s _ _).does
  · exact Effect.stands.does

/-! Configuration and life cycle -/

theorem acts_setStation (t : PortTail) (s : State) : s.acts (.setStation t) := by
  refine State.acts_port rfl fun u ha => ?_
  split
  next => exact .stands
  next hdelay =>
    split
    next => exact .stands
    next hdivider =>
      exact .stores _ (.inl ⟨t, rfl⟩) (beq_iff_eq.mp ha) fun h => ⟨hdelay, hdivider, h.2.2⟩

theorem acts_setLine (t : PortTail) (s : State) : s.acts (.setLine t) := by
  refine State.acts_port rfl fun u ha => ?_
  split
  next =>
    split
    next => exact .stands
    next => exact .stores _ (.inr (.inl ⟨t, rfl⟩)) (beq_iff_eq.mp ha) id
  next => exact .stands

/-- A route entry that SET_ROUTE takes is usable (R175). -/
theorem usable_of_routeOfBytes {bytes : List Byte} {r : Route} (h : routeOfBytes bytes = some r) : r.usable := by
  simp only [routeOfBytes] at h
  split at h
  next => cases h
  next mode _ =>
    iterate 4 (split at h; · cases h)
    rename_i hmask _
    cases h
    simpa [Route.usable, or_iff_not_imp_left] using hmask

theorem acts_setRoute (t : PortTail) (s : State) : s.acts (.setRoute t) := by
  refine State.acts_port rfl fun u ha => ?_
  split
  next hk =>
    split
    next => exact .stands
    next r hr =>
      refine .stores _ (.inr (.inr ⟨t, rfl⟩)) (beq_iff_eq.mp ha) fun h => ⟨h.1, h.2.1, fun k => ?_⟩
      have hget := get_set u.cs.routes ⟨(arg t.bytes 0).toNat, hk⟩ k r
      show Route.usable ((u.cs.routes.set _ r hk).get k)
      rw [hget]
      split
      · exact usable_of_routeOfBytes hr
      · exact h.2.2 k
  next => exact .stands

theorem acts_commit (t : PortTail) (s : State) : s.acts (.commit t) :=
  State.acts_port rfl fun _ ha => .commits (beq_iff_eq.mp ha)

theorem acts_rejoin (t : PortTail) (s : State) : s.acts (.rejoin t) :=
  State.acts_port rfl fun _ ha => .rejoins ha

theorem acts_park (t : PortTail) (s : State) : s.acts (.park t) :=
  State.acts_port rfl fun _ ha => .parks (beq_iff_eq.mp ha)

theorem acts_unpark (t : PortTail) (s : State) : s.acts (.unpark t) :=
  State.acts_port rfl fun _ ha => .unparks (beq_iff_eq.mp ha)

theorem acts_reset (t : PortTail) (s : State) : s.acts (.reset t) := by
  have hclock := State.portMoved_clockFrame s (portFrameBits 0x3F t) 0
  refine ⟨_, rfl, ?_⟩
  split
  · exact hclock.does
  · exact (State.portMoved_trans hclock (State.portMoved_respond _ _ _ _)).does
  · exact ⟨_, _, hclock, .resets (s.clockFrame _).enterReset.pins Config.resetCommandPeriods (.inr ⟨t, rfl⟩)
      ⟨rfl, rfl, rfl⟩, State.portMoved_refl _⟩

/-! Sources, entries and alerts -/

theorem takesPart_of_serves {st : StationState} (h : st.serves = true) : st.takesPart = true :=
  (takesPart_iff st).mpr (.inr ((serves_iff st).mp h))

theorem acts_setThreshold (t : PortTail) (s : State) : s.acts (.setThreshold t) := by
  refine State.acts_port rfl fun u ha => ?_
  split
  next => exact .stands
  next h => exact .works ha (.single (.threshold (not_lt.mp h)))

theorem acts_raise (t : PortTail) (s : State) : s.acts (.raise t) := by
  refine State.acts_port rfl fun u ha => ?_
  split
  next =>
    dsimp only
    split
    next he => exact .works ha (.single (.request _ he))
    next => exact .stands
  next => exact .stands

theorem acts_cancel (t : PortTail) (s : State) : s.acts (.cancel t) := by
  refine State.acts_port rfl fun u ha => ?_
  split
  next hk =>
    refine .cancels ⟨_, hk⟩ ha ?_
    rw [State.cancelSource_eq]
    exact .single (.cancel _)
  next => exact .stands

theorem acts_ackAlert (t : PortTail) (s : State) : s.acts (.ackAlert t) :=
  State.acts_port rfl fun _ ha => .acknowledges ha

theorem acts_peek (t : PortTail) (s : State) : s.acts (.peek t) := by
  refine State.acts_port rfl fun u _ => ?_
  split
  · exact .stands
  · exact .stands

theorem acts_take (t : PortTail) (s : State) : s.acts (.take t) := by
  refine State.acts_port rfl fun u ha => ?_
  split
  next hb => exact .works (takesPart_of_serves ha) (.single (.activates hb))
  next => exact .stands

theorem acts_complete (t : PortTail) (s : State) : s.acts (.complete t) := by
  refine State.acts_port rfl fun u ha => ?_
  split
  next h _ _ => exact .works (takesPart_of_serves ha) (.single (.completes h))
  next => exact .stands

theorem acts_completeEntry (t : PortTail) (s : State) : s.acts (.completeEntry t) := by
  refine State.acts_port rfl fun u ha => ?_
  split
  next =>
    dsimp only
    split
    next => exact .works (takesPart_of_serves ha) (.single (.completes _))
    next => exact .stands
  next => exact .stands

/-! Every command -/

/-- Every command answers a next state, by one of its effects. -/
theorem exec_acts (c : Instr) (s : State) : s.acts c := by
  cases c with
  | powerUp => exact acts_powerUp s
  | resetPinLow => exact acts_resetPinLow s
  | endOfFullReset straps => exact acts_endOfFullReset straps s
  | stationTick levels => exact acts_stationTick levels s
  | debounceQualified n => exact acts_debounceQualified n s
  | backoffExpiry k => exact acts_backoffExpiry k s
  | holdOffExpiry r => exact acts_holdOffExpiry r s
  | helloRetryExpiry => exact acts_helloRetryExpiry s
  | integrationComplete samples => exact acts_integrationComplete samples s
  | busIdle samples => exact acts_busIdle samples s
  | startOpportunity sample => exact acts_startOpportunity sample s
  | arbitrationReport field => exact acts_arbitrationReport field s
  | bitCompareMismatch samples => exact acts_bitCompareMismatch samples s
  | frameAbandoned samples => exact acts_frameAbandoned samples s
  | decision samples => exact acts_decision samples s
  | frameDiscardedByErr samples => exact acts_frameDiscardedByErr samples s
  | helloCompletion samples presence => exact acts_helloCompletion samples presence s
  | doneCompletion samples ack => exact acts_doneCompletion samples ack s
  | withdrawCompletion samples ack => exact acts_withdrawCompletion samples ack s
  | noticeDrop r => exact acts_noticeDrop r s
  | directOfferCompletion accept => exact acts_directOfferCompletion accept s
  | poolOfferCompletion word => exact acts_poolOfferCompletion word s
  | spreadOfferCompletion mask => exact acts_spreadOfferCompletion mask s
  | sourceFailed k => exact acts_sourceFailed k s
  | setStation t => exact acts_setStation t s
  | setLine t => exact acts_setLine t s
  | setRoute t => exact acts_setRoute t s
  | commit t => exact acts_commit t s
  | setThreshold t => exact acts_setThreshold t s
  | raise t => exact acts_raise t s
  | cancel t => exact acts_cancel t s
  | ackAlert t => exact acts_ackAlert t s
  | rejoin t => exact acts_rejoin t s
  | peek t => exact acts_peek t s
  | take t => exact acts_take t s
  | complete t => exact acts_complete t s
  | completeEntry t => exact acts_completeEntry t s
  | park t => exact acts_park t s
  | unpark t => exact acts_unpark t s
  | reset t => exact acts_reset t s
  | unknownCommand bits => exact acts_unknownCommand bits s
  | vddBelowOperatingLimit => exact acts_vddBelowOperatingLimit s
  | invalidKindFrameEnd samples => exact acts_invalidKindFrameEnd samples s
  | commandFrameBegins => exact acts_commandFrameBegins s
  | frameNotTaken f => exact acts_frameNotTaken f s
  | readLine t | readRoute t | readSource t | readEntry t =>
    refine State.acts_port rfl fun u _ => ?_
    split
    · exact .stands
    · exact .stands
  | nop t | readId t | readStatus t | readStation t | readStack t | readPresence t =>
    exact State.acts_port rfl fun _ _ => .stands

/-- What a command does is an effect, on the port's frame as it may have moved. -/
theorem exec_does {c : Instr} {s t : State} (h : exec c s = .next t) : s.does c t := by
  obtain ⟨u, hu, hd⟩ := exec_acts c s
  rw [h] at hu
  cases hu
  exact hd

end Sys2Proof.Machine
end

section
/-! Steps, and what they make of the station's life: the queue, the station state, the Configuration Store and
CONFLICT. -/
namespace Sys2Proof.Machine

/-! Steps -/

/-- A CLKIN period without an event: the prescaler counts, or what is left of a RESET command's periods (R25, R42). -/
def State.counted (s t : State) : Prop :=
  (s.liu.prescaler + 1 < s.tickPeriods ∧ s.sc.station.takesPart = true ∧
    t = { s with liu := { s.liu with prescaler := s.liu.prescaler + 1 } }) ∨
  ∃ n, t = { s with resetPeriods := n }

/-- A CLKIN period in the three states that take part (R42). -/
theorem State.clkinPeriod_of_takesPart {s : State} (h : s.sc.station.takesPart = true) :
    s.clkinPeriod = if s.tickPeriods ≤ s.liu.prescaler + 1 then s.tick s.pins.lines
      else { s with liu := { s.liu with prescaler := s.liu.prescaler + 1 } } := by
  rcases (takesPart_iff _).mp h with h | h | h <;> simp only [State.clkinPeriod, h]

theorem State.clkinPeriod_of_reset {s : State} (h : s.sc.station = .reset) :
    s.clkinPeriod = if s.resetPeriods = 0 then s
      else if s.resetPeriods = 1 && !s.pins.resetLow && !s.pins.vddLow then s.endReset s.pins.straps
      else { s with resetPeriods := s.resetPeriods - 1 } := by
  simp only [State.clkinPeriod, h]

theorem State.clkinPeriod_of_still {s : State} (h : s.sc.station = .config ∨ s.sc.station = .halt) :
    s.clkinPeriod = s := by
  rcases h with h | h <;> simp only [State.clkinPeriod, h]

theorem station_cases (st : StationState) : st.takesPart = true ∨ st = .reset ∨ st = .config ∨ st = .halt := by
  cases st <;> simp [StationState.takesPart]

/-- Everything a step can do: the effect of a command, or the count of a CLKIN period. -/
theorem step_cases {s t : State} (h : step s = .next t) :
    (∃ c rest, ({ s with pending := rest } : State).does c t) ∨ s.counted t := by
  unfold step at h
  split at h
  next he =>
    have hp : s = { s with pending := [] } := by rw [← he]
    cases h
    rcases station_cases s.sc.station with hs | hs | hs
    · rw [State.clkinPeriod_of_takesPart hs]
      split
      · exact .inl ⟨.stationTick s.pins.lines, [], hp ▸ (effect_tick _ _ hs).does⟩
      · exact .inr (.inl ⟨not_le.mp ‹_›, hs, rfl⟩)
    · rw [State.clkinPeriod_of_reset hs]
      split
      · exact .inr (.inr ⟨s.resetPeriods, rfl⟩)
      · split
        · exact .inl ⟨.endOfFullReset s.pins.straps, [], hp ▸ (Effect.endsReset _ hs).does⟩
        · exact .inr (.inr ⟨_, rfl⟩)
    · rw [State.clkinPeriod_of_still hs]
      exact .inr (.inr ⟨s.resetPeriods, rfl⟩)
  next c rest _ => exact .inl ⟨c, rest, exec_does h⟩

/-- What the queue, a port frame, a CLKIN count and every effect keep, every step keeps. -/
theorem step_keeps {P : State → Prop} (queue : ∀ s rest, P s → P { s with pending := rest })
    (port : ∀ s t, s.portMoved t → P s → P t) (count : ∀ s t, s.counted t → P s → P t)
    (effect : ∀ c s t, Effect c s t → P s → P t) {s t : State} (hs : P s) (h : step s = .next t) : P t := by
  obtain ⟨c, rest, u, v, hu, he, hv⟩ | hc := step_cases h
  · exact port v t hv (effect c u v he (port _ u hu (queue s rest hs)))
  · exact count s t hc hs

/-! The queue -/

theorem State.tickHello_eq (s : State) : s.tickHello = { s with sc := { s.sc with
    helloPending := s.tickHello.sc.helloPending, helloRetry := s.tickHello.sc.helloRetry } } := by
  unfold State.tickHello
  split
  · split <;> rfl
  · rfl

theorem State.enterHalt_pending (s : State) : s.enterHalt.pending = s.pending := rfl

theorem State.takeDecision_moved (s : State) (f : Frame) : s.takeDecision f =
    { s with cu := (s.takeDecision f).cu, pbe := { s.pbe with claim := (s.takeDecision f).pbe.claim } } := by
  unfold State.takeDecision
  split <;> rfl

theorem Effect.pending {c : Instr} {s t : State} (h : Effect c s t) : t.pending = s.pending := by
  cases h with
  | works _ hu => rw [State.settle_pending, hu.moved.pending]
  | cancels _ _ hu => rw [State.settle_pending, hu.moved.pending]; rfl
  | ticks _ _ hu => rw [State.settle_pending, State.tickHello_eq, hu.moved.pending, State.sampled]
  | debounces _ _ _ _ _ hu => rw [State.settle_pending, hu.moved.pending]; rfl
  | arbitrates _ _ _ _ _ _ _ _ hu => rw [State.settle_pending, hu.moved.pending]; rfl
  | ends _ _ _ hu => rw [State.settle_pending, State.endFrame_pending, hu.moved.pending]; rfl
  | offerEnds _ _ _ _ _ _ hu =>
    rw [State.settle_pending, State.endFrame_pending, hu.moved.pending, State.offerClosed, State.closeClaim_moved]
    rfl
  | reports _ hu => rw [State.settle_pending, State.markReported_pending, hu.moved.pending]
  | decides => rw [State.takeDecision_moved]; rfl
  | commits | rejoins | parks | unparks | acknowledges | helloDiscarded | helloSent => simp
  | _ => rfl

/-- Settles O3: each command answers by one of its effects, and no effect reaches the queue. -/
theorem everyCommandAnswersNextAndKeepsTheQueue : Obligations.EveryCommandAnswersNextAndKeepsTheQueue := by
  intro c s
  obtain ⟨t, ht, u, v, hu, he, hv⟩ := exec_acts c s
  exact ⟨t, ht, hv.pending.trans (he.pending.trans hu.pending)⟩

/-! The station state, the Configuration Store and CONFLICT -/

/-- The station state, the Configuration Store and CONFLICT, after a command: they stand, or change together as a
reset, the CONFIG commands, an entry to JOIN, RUN, PARKED or HALT changes them. -/
inductive LifeStep (c : Instr) (s t : State) : Prop
  | stays (hst : t.sc.station = s.sc.station) (hcs : t.cs = s.cs) (hc : t.lp.alerts.conflict = s.lp.alerts.conflict)
  | resets (hst : t.sc.station = .reset) (hcs : t.cs = ConfigStore.reset) (hc : t.lp.alerts.conflict = false)
  | endsReset (hs : s.sc.station = .reset) (hst : t.sc.station = .config) (hcs : t.cs = s.cs)
      (hc : t.lp.alerts.conflict = s.lp.alerts.conflict)
  | stores (hs : s.sc.station = .config)
      (hset : (∃ a, c = .setStation a) ∨ (∃ a, c = .setLine a) ∨ ∃ a, c = .setRoute a)
      (hst : t.sc.station = .config) (hr : StoreInRange s → StoreInRange t)
      (hc : t.lp.alerts.conflict = s.lp.alerts.conflict)
  | moves (hs : legalTransition s.sc.station t.sc.station = true) (hhalt : s.sc.station ≠ .halt)
      (hst : t.sc.station ≠ .halt) (hcs : t.cs = s.cs) (hc : t.lp.alerts.conflict = s.lp.alerts.conflict)
  | halts (hs : s.sc.station.takesPart = true) (hst : t.sc.station = .halt) (hcs : t.cs = s.cs)
      (hc : t.lp.alerts.conflict = true)

theorem LifeStep.of_tables {c : Instr} {s u v t : State} (hu : TableEvents u v)
    (hs : u.sc = s.sc ∧ u.cs = s.cs ∧ u.lp = s.lp) (ht : t.sc.station = v.sc.station ∧ t.cs = v.cs ∧
      t.lp.alerts.conflict = v.lp.alerts.conflict) : LifeStep c s t := by
  obtain ⟨hsc, hcs, hlp⟩ := hs
  obtain ⟨hst, hcs', hc⟩ := ht
  refine .stays ?_ ?_ ?_
  · rw [hst, hu.moved.sc, hsc]
  · rw [hcs', hu.moved.cs, hcs]
  · rw [hc, hu.moved.conflict, hlp]

theorem Effect.life {c : Instr} {s t : State} (h : Effect c s t) : LifeStep c s t := by
  cases h with
  | resets => exact .resets rfl rfl rfl
  | endsReset _ hs => exact .endsReset hs rfl rfl rfl
  | stores cs hc hs hr => exact .stores hs hc hs hr rfl
  | commits hs => exact .moves (by rw [hs]; rfl) (by simp [hs]) (by simp) rfl rfl
  | rejoins hs =>
    refine .moves ?_ ?_ (by simp) rfl rfl
    · rcases (takesPart_iff _).mp hs with h | h | h <;> rw [h] <;> rfl
    · intro h; rw [h] at hs; cases hs
  | parks hs => exact .moves (by rw [hs]; rfl) (by simp [hs]) (by simp) rfl rfl
  | unparks hs => exact .moves (by rw [hs]; rfl) (by simp [hs]) (by simp) rfl rfl
  | helloSent _ _ hs _ =>
    refine .moves ?_ ?_ (by simp) rfl rfl
    · rcases (takesPart_iff _).mp hs with h | h | h <;> rw [h] <;> rfl
    · intro h; rw [h] at hs; cases hs
  | halts _ hs => exact .halts hs rfl rfl rfl
  | works _ hu => exact .of_tables hu ⟨rfl, rfl, rfl⟩ (by simp)
  | cancels _ _ hu => exact .of_tables hu ⟨rfl, rfl, rfl⟩ (by simp)
  | ticks _ _ hu =>
    exact .of_tables hu (by simp only [State.sampled, and_self]) (by rw [State.tickHello_eq]; simp)
  | debounces _ _ _ _ _ hu => exact .of_tables hu ⟨rfl, rfl, rfl⟩ (by simp)
  | arbitrates _ _ _ _ _ _ _ _ hu => exact .of_tables hu ⟨rfl, rfl, rfl⟩ (by simp)
  | ends _ _ _ hu => exact .of_tables hu ⟨rfl, rfl, rfl⟩ (by simp)
  | offerEnds _ _ _ _ _ _ hu =>
    refine .of_tables hu ?_ (by simp)
    rw [State.offerClosed, State.closeClaim_moved]
    exact ⟨rfl, rfl, rfl⟩
  | reports _ hu => exact .of_tables hu ⟨rfl, rfl, rfl⟩ (by simp)
  | decides =>
    rw [State.takeDecision_moved]
    exact .stays rfl rfl rfl
  | _ => exact .stays rfl rfl rfl

theorem legalTransition_refl (st : StationState) : legalTransition st st = true := by cases st <;> rfl

/-- Settles O51: each command moves the station state as `Effect.life` says, and each of these moves stands in Table
2-2. -/
theorem stationStatesFollowTable : Obligations.StationStatesFollowTable := by
  intro s t h
  obtain ⟨c, rest, u, v, hu, he, hv⟩ | ⟨-, -, rfl⟩ | ⟨n, rfl⟩ := step_cases h
  · have hlife : legalTransition u.sc.station v.sc.station = true := by
      cases he.life with
      | stays hst => rw [hst]; exact legalTransition_refl _
      | resets hst => rw [hst]; cases u.sc.station <;> rfl
      | endsReset hs hst => rw [hs, hst]; rfl
      | stores hs _ hst => rw [hs, hst]; rfl
      | moves hs => exact hs
      | halts hs hst => rcases (takesPart_iff _).mp hs with h | h | h <;> rw [h, hst] <;> rfl
    rwa [hu.sc, ← hv.sc] at hlife
  · exact legalTransition_refl _
  · exact legalTransition_refl _

theorem storeInRange_of_cs {s t : State} (h : t.cs = s.cs) (hs : StoreInRange s) : StoreInRange t := by
  unfold StoreInRange State.route at *
  rwa [h]

theorem storeInRange_reset {s : State} (h : s.cs = ConfigStore.reset) : StoreInRange s := by
  refine ⟨by rw [h]; decide, by rw [h]; decide, fun k => .inl ?_⟩
  rw [State.route, h, ConfigStore.reset, get_replicate]
  rfl

theorem Effect.keeps_storeInRange {c : Instr} {s t : State} (h : Effect c s t) (hs : StoreInRange s) :
    StoreInRange t := by
  cases h.life with
  | stays _ hcs => exact storeInRange_of_cs hcs hs
  | resets _ hcs => exact storeInRange_reset hcs
  | endsReset _ _ hcs => exact storeInRange_of_cs hcs hs
  | stores _ _ _ hr => exact hr hs
  | moves _ _ _ hcs => exact storeInRange_of_cs hcs hs
  | halts _ _ hcs => exact storeInRange_of_cs hcs hs

theorem step_keeps_storeInRange {s t : State} (hs : StoreInRange s) (h : step s = .next t) : StoreInRange t := by
  refine step_keeps (P := StoreInRange) (fun _ _ => id) (fun _ _ hm => storeInRange_of_cs hm.cs) (fun s t hc => ?_)
    (fun _ _ _ => Effect.keeps_storeInRange) hs h
  obtain ⟨-, -, rfl⟩ | ⟨n, rfl⟩ := hc
  · exact id
  · exact id

/-- Settles O50: of the moves of `Effect.life`, only a reset and the three CONFIG commands reach the store. -/
theorem storeWrittenOnlyInConfig : Obligations.StoreWrittenOnlyInConfig := by
  refine ⟨fun c s t h => ?_, fun s t => step_keeps_storeInRange⟩
  obtain ⟨u, v, hu, he, hv⟩ := exec_does h
  rw [hv.cs, hv.sc, ← hu.cs, ← hu.sc]
  cases he.life with
  | stays _ hcs => exact .inl hcs
  | resets hst hcs => exact .inr (.inl ⟨hcs, hst⟩)
  | endsReset _ _ hcs => exact .inl hcs
  | stores hs hset => exact .inr (.inr ⟨hs, hset⟩)
  | moves _ _ _ hcs => exact .inl hcs
  | halts _ _ hcs => exact .inl hcs

theorem conflictMeansHalt_congr {s t : State} (hst : t.sc.station = s.sc.station)
    (hc : t.lp.alerts.conflict = s.lp.alerts.conflict) (h : ConflictMeansHalt s) : ConflictMeansHalt t := by
  unfold ConflictMeansHalt at *
  rwa [hc, hst]

theorem Effect.keeps_conflictMeansHalt {c : Instr} {s t : State} (h : Effect c s t) (hs : ConflictMeansHalt s) :
    ConflictMeansHalt t := by
  cases h.life with
  | stays hst _ hc => exact conflictMeansHalt_congr hst hc hs
  | resets hst _ hc => simp [ConflictMeansHalt, hst, hc]
  | endsReset hs' hst _ hc =>
    simp only [ConflictMeansHalt, hs', hst, hc] at hs ⊢
    simpa using hs
  | stores hs' _ hst _ hc =>
    simp only [ConflictMeansHalt, hs', hst, hc] at hs ⊢
    simpa using hs
  | moves _ hs' hst _ hc =>
    simp only [ConflictMeansHalt, hs', hst, hc] at hs ⊢
    exact hs
  | halts _ hst _ hc => simp [ConflictMeansHalt, hst, hc]

/-- Settles O54: the moves of `Effect.life` latch CONFLICT at the entry to HALT alone, and leave HALT only by a reset,
which clears it. -/
theorem conflictStaysHalt : Obligations.ConflictStaysHalt := by
  intro s t hs h
  refine step_keeps (P := ConflictMeansHalt) (fun _ _ => id)
    (fun _ _ hm => conflictMeansHalt_congr (by rw [hm.sc]) (by rw [hm.alerts])) (fun s t hc => ?_)
    (fun _ _ _ => Effect.keeps_conflictMeansHalt) hs h
  obtain ⟨-, -, rfl⟩ | ⟨n, rfl⟩ := hc
  · exact id
  · exact id

end Sys2Proof.Machine
end

section
/-! The pins: SRQ#, ALERT#, FAIL and LSDO stand as their conditions say (R117, R154, R164, R166). -/
namespace Sys2Proof.Machine

/-- LSDO is high-impedance exactly while no port frame is in progress (R154). -/
def State.lsdoRight (s : State) : Prop := s.pins.lsdo = none ↔ s.lp.frame = .noFrame

/-- The end of an event puts SRQ#, ALERT# and FAIL at the values of the state that the event leaves. -/
theorem pinsFollowState_settle {s : State} (h : s.lsdoRight) : PinsFollowState s.settle where
  srq := by rw [State.settle_pins]; rfl
  alert := by rw [State.settle_pins, State.settle_lp]
  fail := by rw [State.settle_lp]; rfl
  lsdo := by rw [State.settle_pins, State.settle_lp]; exact h

/-- What the pins follow, and the pins themselves, as they stand in another state. -/
theorem PinsFollowState.congr {s t : State} (h : PinsFollowState s) (hsc : t.sc.station.serves = s.sc.station.serves)
    (hsvt : t.svt = s.svt) (hst : t.st = s.st) (ha : t.lp.alerts = s.lp.alerts)
    (hp : t.pins.srqLow = s.pins.srqLow ∧ t.pins.alertLow = s.pins.alertLow) (hl : t.lsdoRight) :
    PinsFollowState t where
  srq := by rw [hp.1, h.srq, State.srqCondition, State.srqCondition, hsc, hsvt]
  alert := by rw [hp.2, h.alert, ha]
  fail := by rw [ha, h.fail]; unfold State.anyFailed State.source; rw [hst]
  lsdo := hl

theorem State.lsdoRight_of_tables {s t : State} (h : TableEvents s t) (hs : s.lsdoRight) : t.lsdoRight := by
  unfold State.lsdoRight at *
  rwa [h.moved.pins, h.moved.frame]

theorem State.lsdoRight_enterReset {s : State} (hs : s.lsdoRight) :
    s.lsdoInReset = none ↔ s.lp.frame.afterReset s.lp.buffer = .noFrame := by
  unfold State.lsdoRight at hs
  unfold State.lsdoInReset
  cases hf : s.lp.frame <;> simp_all [PortFrame.afterReset]

theorem anyFailed_reset {s : State} (h : s.st = SourceTable.reset) : s.anyFailed = false := by
  unfold State.anyFailed State.source
  rw [h, List.any_eq_false]
  intro k _
  rw [SourceTable.reset, get_replicate]
  decide

theorem Effect.keeps_pins {c : Instr} {s t : State} (h : Effect c s t) (hs : PinsFollowState s) :
    PinsFollowState t := by
  have hl : s.lsdoRight := hs.lsdo
  cases h with
  | stands => exact hs
  | resets pins n _ hp =>
    obtain ⟨hsrq, halert, hlsdo⟩ := hp
    exact ⟨hsrq, halert, (anyFailed_reset rfl).symm, hlsdo ▸ State.lsdoRight_enterReset hl⟩
  | endsReset _ hst => exact hs.congr (by rw [hst]; rfl) rfl rfl rfl ⟨rfl, rfl⟩ hl
  | commits | rejoins | parks | unparks | acknowledges | helloDiscarded | helloSent => exact pinsFollowState_settle hl
  | halts driven _ => exact pinsFollowState_settle hl
  | works _ hu =>
    have hu := State.lsdoRight_of_tables hu hl
    exact pinsFollowState_settle hu
  | cancels _ _ hu =>
    have hu := State.lsdoRight_of_tables hu hl
    exact pinsFollowState_settle hu
  | ticks levels _ hu =>
    have hsampled : (s.sampled levels).lsdoRight := by simpa only [State.lsdoRight, State.sampled] using hl
    rw [State.tickHello_eq]
    have hu := State.lsdoRight_of_tables hu hsampled
    exact pinsFollowState_settle hu
  | debounces _ _ _ _ _ hu =>
    have hu := State.lsdoRight_of_tables hu hl
    exact pinsFollowState_settle hu
  | arbitrates _ _ _ _ _ _ _ _ hu =>
    have hu := State.lsdoRight_of_tables hu hl
    exact pinsFollowState_settle hu
  | ends _ _ _ hu =>
    have hu := State.lsdoRight_of_tables hu hl
    exact pinsFollowState_settle hu
  | offerEnds _ _ _ _ _ _ hu =>
    rw [State.offerClosed, State.closeClaim_moved] at hu
    have hu := State.lsdoRight_of_tables hu hl
    exact pinsFollowState_settle hu
  | reports _ hu =>
    have hu := State.lsdoRight_of_tables hu hl
    exact pinsFollowState_settle hu
  | decides =>
    rw [State.takeDecision_moved]
    exact hs.congr rfl rfl rfl rfl ⟨rfl, rfl⟩ hl
  | stores | expires | retries | counts | enters | follows | hears | abandons =>
    exact hs.congr rfl rfl rfl rfl ⟨rfl, rfl⟩ hl

/-- SRQ# is low exactly where PEEK answers with an entry (R117). -/
theorem srqCondition_iff_peek {s : State} (h : s.portOpen) :
    s.srqCondition = true ↔ ∃ t, exec (.peek ⟨[], []⟩) s = .next t ∧ t.lp.buffer.result = .ok := by
  have hresult {r : ResultCode} {data : List Byte}
      (hx : exec (.peek ⟨[], []⟩) s = .next (s.answers [0x30] r data)) :
      (∃ t, exec (.peek ⟨[], []⟩) s = .next t ∧ t.lp.buffer.result = .ok) ↔ r = .ok := by
    rw [hx]
    exact ⟨fun ⟨t, ht, hr⟩ => by cases ht; exact hr, fun hr => ⟨_, rfl, hr⟩⟩
  unfold State.srqCondition
  cases hs : s.sc.station.serves with
  | true =>
    cases hb : s.svt.best with
    | some e => rw [hresult (exec_peek_best h hs hb)]; simp
    | none => rw [hresult (exec_peek_none h hs hb)]; simp
  | false =>
    have hst : s.sc.station = .config ∨ s.sc.station = .join ∨ s.sc.station = .halt := by
      have hreset := h.2
      cases hc : s.sc.station <;> simp_all [StationState.serves]
    rw [hresult (congrArg Host.Outcome.next (State.portCommand_notServing h hst rfl rfl (by simp) rfl _))]
    simp

/-- Settles O53: every effect that reaches what the pins show ends in `State.settle`, which evaluates them anew; PEEK
searches for the entry that the condition of SRQ# searches for. -/
theorem pinsStayRight : Obligations.PinsStayRight := by
  refine ⟨fun s t hs h => ?_, fun s hs h => hs.srq ▸ srqCondition_iff_peek h⟩
  refine step_keeps (P := PinsFollowState) (fun _ _ h => h.congr rfl rfl rfl rfl ⟨rfl, rfl⟩ h.lsdo)
    (fun s t hm h => h.congr (by rw [hm.sc]) hm.svt hm.st hm.alerts ⟨hm.srqLow, hm.alertLow⟩ (hm.lsdo h.lsdo))
    (fun s t hc h => ?_) (fun _ _ _ => Effect.keeps_pins) hs h
  obtain ⟨-, -, rfl⟩ | ⟨n, rfl⟩ := hc
  · exact h.congr rfl rfl rfl rfl ⟨rfl, rfl⟩ h.lsdo
  · exact h.congr rfl rfl rfl rfl ⟨rfl, rfl⟩ h.lsdo

end Sys2Proof.Machine
end

section
/-! The transitions that the events of the tables consist of: of a source (Tables 4-1 to 4-4), of a notice (chapter 7),
and of an entry (chapter 6). `TableEvent.steps` takes every event apart; the invariants look at the transitions. -/
namespace Sys2Proof.Machine

/-! Transitions of the Service Table -/

/-- An occupied entry may become `e` without a place in arrival order: FREE, or with the offer it holds. -/
def Entry.mayBecome (a e : Entry) : Prop := e = .free ∨ ∃ o p q, a = .occupied o p ∧ e = .occupied o q ∧ ∀ n, q ≠ .pending n

/-- One transition of the Service Table other than an installation. -/
inductive ServiceStep (t : ServiceTable) : ServiceTable → Prop
  | threshold {n : Nat} (hn : n ≤ 16) : ServiceStep t { t with threshold := n }
  | changes {h : Handle} {e : Entry} (he : (t.entry h).mayBecome e) (hon : e.onStack = (t.entry h).onStack) :
      ServiceStep t (t.changeEntry h e)
  | completes {h : Handle} {e : Entry} (he : (t.entry h).mayBecome e) (hon : (t.entry h).onStack = true)
      (hoff : e.onStack = false) : ServiceStep t (t.completed h e)
  | unstacks {h : Handle} (hoff : (t.entry h).onStack = false) : ServiceStep t (t.unstack h)
  | activates {h : Handle} {o : HeldOffer} {p : Nat} (he : t.entry h = .occupied o (.pending p))
      (ht : t.takeable o = true) : ServiceStep t (t.activated h o)

abbrev ServiceSteps : ServiceTable → ServiceTable → Prop := Relation.ReflTransGen ServiceStep

/-- The entries in CLOSING, with what they hold, are the same in both tables, but perhaps at h. -/
def ServiceTable.sameClosing (t u : ServiceTable) (except : Handle → Prop) : Prop :=
  ∀ j, ¬ except j → ∀ o c, u.entry j = .occupied o (.closing c) ↔ t.entry j = .occupied o (.closing c)

/-! Transitions of the three tables -/

/-- One transition of a source, a notice or an entry. -/
inductive TableStep (s : State) : State → Prop
  /-- The record of source k keeps its state. -/
  | marks (k : SourceIndex) (r : SourceRecord) (hst : r.state = (s.source k).state)
      (hg : r.generation = (s.source k).generation) (hm : r.remaining.isSome = (s.source k).remaining.isSome)
      (hc : r.cancelPending = true → (s.source k).cancelPending = true ∨ (s.source k).state = .ready ∨
        (s.source k).state = .offering)
      (ha : r.again = true → (s.source k).again = true ∨
        ((s.source k).state ≠ .idle ∧ (s.source k).state ≠ .failed))
      (hr : (s.source k).state = .idle → r.retry = (s.source k).retry) : TableStep s (s.setSource k r)
  | readies (k : SourceIndex) (h : (s.source k).state = .idle ∧ (s.route k).enabled = true ∨
      (∃ x, (s.source k).state = .placed x) ∧ (s.source k).again = false) : TableStep s (s.enterReady k)
  | idles (k : SourceIndex) (hi : (s.source k).state ≠ .idle) (hw : ∀ x w, (s.source k).state ≠ .withdrawing x w) :
      TableStep s (s.enterIdle k)
  | offers (k : SourceIndex) (h : (s.source k).state = .ready) :
      TableStep s ((s.leaveReadyList k).setSource k { s.source k with state := .offering })
  | backsOff (k : SourceIndex) (retry : Byte) (h : (s.source k).state = .offering)
      (hc : (s.source k).cancelPending = false) : TableStep s (s.enterBackoff k retry)
  | fails (k : SourceIndex) (h : (s.source k).state = .offering) (hc : (s.source k).cancelPending = false) :
      TableStep s (s.enterFailed k)
  | ticks (k : SourceIndex) (t : Nat) (h : (s.source k).state = .backoff t) (ht : 1 < t) :
      TableStep s (s.setSource k { s.source k with state := .backoff (t - 1) })
  | expires (k : SourceIndex) (t : Nat) (h : (s.source k).state = .backoff t) : TableStep s (s.backoffExpires k)
  | places (k : SourceIndex) (x : StationId) (f : Frame) (h : (s.source k).state = .offering)
      (hc : (s.source k).cancelPending = false) (hi : s.ts.inHand = some { item := .offer k, frame := f })
      (hf : f.kind ≠ .spread) : TableStep s (s.setSource k { s.source k with state := .placed x, retry := 0 })
  | withdraws (k : SourceIndex) (x : StationId) (cancel : Bool)
      (h : (∃ y, (s.source k).state = .placed y) ∨ (s.source k).state = .withdrawing x .dropped ∨
        (s.source k).state = .offering ∧ ∃ f, s.ts.inHand = some { item := .offer k, frame := f } ∧ f.kind ≠ .spread)
      (hc : cancel = true → (s.source k).cancelPending = true ∧ (s.source k).state = .withdrawing x .dropped) :
      TableStep s ((s.setSource k { s.source k with state := .withdrawing x .no, cancelPending := cancel }).queueNotice
        (s.withdrawNotice k x))
  | releases (k : SourceIndex) (h : (s.source k).state.isPlaced = true) :
      TableStep s ((s.removeNotice (.withdraw k)).enterIdle k)
  | drops : TableStep s (s.setDrop true)
  | endsWithdraw (k : SourceIndex) (w : WithdrawSent) (n : Notice) (hw : w ≠ .no)
      (hn : s.notice? (.withdraw k) = some n) : TableStep s ((s.removeNotice (.withdraw k)).setWithdrawSent k w)
  | endsDone (h : Handle) (n : Notice) (hn : s.notice? (.done h) = some n) :
      TableStep s ((s.removeNotice (.done h)).freeClosing h)
  | requeues (r : NoticeRef) (n : Notice) (hn : s.notice? r = some n) (ha : n.attempts + 1 < 16) :
      TableStep s ((s.removeNotice r).queueNotice
        { n with attempts := n.attempts + 1, holdOff := some s.cs.retryDelay.toNat })
  | holdOffs (f : Notice → Option Nat)
      (hf : ∀ n t, f n = some t → ∃ t', n.holdOff = some t' ∧ (timerInRange t' → timerInRange t)) :
      TableStep s { s with nl := s.nl.map fun n => { n with holdOff := f n } }
  | serves (t : ServiceTable) (h : ServiceStep s.svt t) (hc : s.svt.sameClosing t fun _ => False) :
      TableStep s { s with svt := t }
  | closes (h : Handle) (o : HeldOffer) (c : DoneOutcome) (p : Phase) (t : ServiceTable) (hstep : ServiceStep s.svt t)
      (he : s.svt.entry h = .occupied o p) (hp : ∀ c, p ≠ .closing c) (ht : o.tracked = true)
      (he' : t.entry h = .occupied o (.closing c)) (hc : s.svt.sameClosing t (· = h)) :
      TableStep s (({ s with svt := t } : State).queueNotice (doneNotice h o c))
  | hellos (x : StationId) (hw : ∀ k w, (s.source k).state ≠ .withdrawing x w) :
      TableStep s { s with
        svt := allHandles.foldl (ServiceTable.helloReleases x) s.svt,
        nl := s.nl.filter fun n => n.addressee != x }

abbrev TableSteps : State → State → Prop := Relation.ReflTransGen TableStep

/-! Sources -/

theorem State.setAgain_step {s : State} {k : SourceIndex} (h : (s.source k).state ≠ .idle ∧ (s.source k).state ≠ .failed) :
    TableStep s (s.setAgain k) :=
  .marks k _ rfl rfl rfl .inl (fun _ => .inr h) (fun _ => rfl)

theorem State.setCancelPending_step {s : State} {k : SourceIndex}
    (h : (s.source k).state = .ready ∨ (s.source k).state = .offering) : TableStep s (s.setCancelPending k) :=
  .marks k _ rfl rfl rfl (fun _ => .inr h) .inl (fun _ => rfl)

theorem State.requestEvent_steps {s : State} {k : SourceIndex} (he : (s.route k).enabled = true) :
    TableSteps s (s.requestEvent k) := by
  unfold State.requestEvent
  split
  next h => exact .single (.readies k (.inl ⟨h, he⟩))
  next h =>
    split
    · exact .single (State.setAgain_step (by simp [h]))
    · exact .refl
  next h => exact .single (State.setAgain_step (by simp [h]))
  next h => exact .single (State.setAgain_step (by simp [h]))
  next h => exact .single (State.setAgain_step (by simp [h]))
  next h => exact .single (State.setAgain_step (by simp [h]))
  next => exact .refl

theorem State.enterWithdrawing_step {s : State} {k : SourceIndex} {x : StationId}
    (h : (∃ y, (s.source k).state = .placed y) ∨ (s.source k).state = .withdrawing x .dropped ∨
        (s.source k).state = .offering ∧
          ∃ f, s.ts.inHand = some { item := .offer k, frame := f } ∧ f.kind ≠ .spread) :
    TableStep s (s.enterWithdrawing k x) := .withdraws k x false h (by simp)

theorem State.withdrawEvent_steps (s : State) (k : SourceIndex) : TableSteps s (s.withdrawEvent k) := by
  unfold State.withdrawEvent
  split
  next => exact .refl
  next h =>
    split
    · exact .single (State.setCancelPending_step (.inl h))
    · exact .single (.idles k (by simp [h]) (by simp [h]))
  next h => exact .single (State.setCancelPending_step (.inr h))
  next h => exact .single (.idles k (by simp [h]) (by simp [h]))
  next h => exact .single (State.enterWithdrawing_step (.inl ⟨_, h⟩))
  next => exact .refl
  next => exact .refl

theorem State.tickSource_steps (s : State) (k : SourceIndex) : TableSteps s (s.tickSource k) := by
  unfold State.tickSource
  split
  next t h =>
    split
    · exact .single (.expires k t h)
    next ht => exact .single (.ticks k t h (not_le.mp ht))
  next => exact .refl

theorem State.cancelByState_steps (s : State) (k : SourceIndex) : TableSteps s (s.cancelByState k) := by
  unfold State.cancelByState
  split
  next => exact .refl
  next h =>
    split
    · exact .single (State.setCancelPending_step (.inl h))
    · exact .single (.idles k (by simp [h]) (by simp [h]))
  next h => exact .single (State.setCancelPending_step (.inr h))
  next h => exact .single (.idles k (by simp [h]) (by simp [h]))
  next h => exact .single (State.enterWithdrawing_step (.inl ⟨_, h⟩))
  next x h => exact .single (.withdraws k x (s.source k).cancelPending (.inr (.inl h)) fun hc => ⟨hc, h⟩)
  next => exact .refl
  next => exact .refl
  next h => exact .single (.idles k (by simp [h]) (by simp [h]))

theorem State.cancel_steps (s : State) (k : SourceIndex) :
    TableSteps s ((s.setSource k { s.source k with again := false }).cancelByState k) :=
  .head (.marks k { s.source k with again := false } rfl rfl rfl .inl (by simp) (fun _ => rfl)) (State.cancelByState_steps _ k)

theorem State.offerArbitrated_steps (s : State) (k : SourceIndex) (won : Bool) :
    TableSteps s (s.offerArbitrated k won) := by
  unfold State.offerArbitrated
  split
  next h =>
    split
    · exact .single (.offers k h)
    · split
      · exact .single (.idles k (by simp [h]) (by simp [h]))
      · exact .refl
  next => exact .refl

theorem State.offerPlaced_steps {s : State} {k : SourceIndex} (x : StationId) {f : Frame}
    (hi : s.ts.inHand = some { item := .offer k, frame := f }) (hf : f.kind ≠ .spread) :
    TableSteps s (s.offerPlaced k x) := by
  unfold State.offerPlaced
  split
  next h =>
    split
    · refine .head (.marks k { s.source k with retry := 0 } rfl rfl rfl .inl .inl (fun hs => by simp [h] at hs)) ?_
      refine .single (State.enterWithdrawing_step (.inr (.inr ⟨?_, f, hi, hf⟩)))
      rw [State.source_setSource, if_pos rfl]
      exact h
    next hc => exact .single (.places k x f h (Bool.eq_false_iff.mpr hc) hi hf)
  next => exact .refl

theorem State.roundUnsuccessful_steps {s : State} {k : SourceIndex} (h : (s.source k).state = .offering)
    (hc : (s.source k).cancelPending = false) : TableSteps s (s.roundUnsuccessful k) := by
  unfold State.roundUnsuccessful
  split
  · exact .single (.fails k h hc)
  · exact .single (.backsOff k _ h hc)

theorem State.offerNotPlaced_steps (s : State) (k : SourceIndex) : TableSteps s (s.offerNotPlaced k) := by
  unfold State.offerNotPlaced
  split
  next h =>
    split
    · exact .single (.idles k (by simp [h]) (by simp [h]))
    next hc => exact State.roundUnsuccessful_steps h (Bool.eq_false_iff.mpr hc)
  next => exact .refl

theorem State.spreadRoundEnds_steps (s : State) (k : SourceIndex) (accepted : StationMask) :
    TableSteps s (s.spreadRoundEnds k accepted) := by
  unfold State.spreadRoundEnds
  split
  next h =>
    refine .head (.marks k { s.source k with remaining := (s.source k).remaining.map fun m => m &&& ~~~accepted }
      rfl rfl (by simp) .inl .inl (fun _ => rfl)) ?_
    dsimp only
    generalize hu : s.setSource k { s.source k with
      remaining := (s.source k).remaining.map fun m => m &&& ~~~accepted } = u
    have hst : (u.source k).state = .offering := by rw [← hu, State.source_setSource, if_pos rfl]; exact h
    have hcp : (u.source k).cancelPending = (s.source k).cancelPending := by
      rw [← hu, State.source_setSource, if_pos rfl]
    split
    · exact .single (.idles k (by simp [hst]) (by simp [hst]))
    next hc =>
      have hc : (u.source k).cancelPending = false := hcp.trans (Bool.eq_false_iff.mpr hc)
      split
      · exact .single (.idles k (by simp [hst]) (by simp [hst]))
      · split
        · exact .single (.backsOff k _ hst hc)
        · exact State.roundUnsuccessful_steps hst hc
  next => exact .refl

theorem State.doneDelivered_steps (s : State) (x : StationId) (k : SourceIndex) (g : Generation) :
    TableSteps s (s.doneDelivered x k g) := by
  unfold State.doneDelivered
  split
  next h =>
    refine .single (.releases k ?_)
    obtain ⟨-, h | ⟨w, h⟩⟩ := (State.doneMatches_iff s x k g).mp h <;> rw [h] <;> rfl
  next => exact .refl

/-! A HELLO -/

theorem State.helloReleasesSource_steps (x : StationId) (s : State) (k : SourceIndex) :
    TableSteps s (State.helloReleasesSource x s k) := by
  unfold State.helloReleasesSource
  split
  next y h =>
    split
    · refine .head (.marks k { s.source k with again := false } rfl rfl rfl .inl (by simp) (fun _ => rfl)) ?_
      have hsource : (s.setSource k { s.source k with again := false }).source k =
          { s.source k with again := false } := by rw [State.source_setSource, if_pos rfl]
      dsimp only
      split
      · exact .single (.idles k (by rw [hsource]; simp [h]) (by rw [hsource]; simp [h]))
      · exact .single (.readies k (.inr ⟨⟨y, by rw [hsource]; exact h⟩, by rw [hsource]⟩))
    · exact .refl
  next y w h =>
    split
    · exact .single (.releases k (by rw [h]; rfl))
    · exact .refl
  next => exact .refl

theorem foldl_steps {f : State → SourceIndex → State} (h : ∀ s k, TableSteps s (f s k)) (ks : List SourceIndex)
    (s : State) : TableSteps s (ks.foldl f s) := by
  induction ks generalizing s with
  | nil => exact .refl
  | cons k ks ih => exact (h s k).trans (ih _)

/-- A source that has just entered READY or IDLE is READY or IDLE. -/
theorem State.enterReady_source (s : State) (k : SourceIndex) : ((s.enterReady k).source k).state = .ready := by
  show ((s.setSource k _).source k).state = _
  rw [State.source_setSource, if_pos rfl]

theorem State.enterIdle_source (s : State) (k : SourceIndex) :
    ((s.enterIdle k).source k).state = .ready ∨ ((s.enterIdle k).source k).state = .idle := by
  unfold State.enterIdle
  dsimp only
  split
  · exact .inl (State.enterReady_source _ k)
  · refine .inr ?_
    rw [State.source_setSource, if_pos rfl]

/-- After a HELLO from x no source is being withdrawn at x (R78). -/
theorem State.helloReleasesSources_withdrawing (s : State) (x : StationId) (k : SourceIndex) (w : WithdrawSent) :
    ((s.helloReleasesSources x).source k).state ≠ .withdrawing x w := by
  obtain ⟨u, -, -, hk⟩ := foldl_source _ (State.helloReleasesSource_moved x) s k
  rw [State.helloReleasesSources, hk]
  have hidle (v : State) : ((v.enterIdle k).source k).state ≠ .withdrawing x w := by
    rcases v.enterIdle_source k with h | h <;> simp [h]
  have hready (v : State) : ((v.enterReady k).source k).state ≠ .withdrawing x w := by
    simp [v.enterReady_source k]
  unfold State.helloReleasesSource
  split
  next y h =>
    split
    · dsimp only
      split
      · exact hidle _
      · exact hready _
    · simp [h]
  next y v h =>
    split
    · exact hidle _
    next hy => simp [h, hy]
  next h => exact fun h' => h _ _ h'

theorem State.helloDelivered_steps (s : State) (x : StationId) : TableSteps s (s.helloDelivered x) := by
  rw [State.helloDelivered_eq, ← (State.helloReleasesSources_moved s x).svt]
  exact .tail (foldl_steps (State.helloReleasesSource_steps x) _ s)
    (.hellos x (State.helloReleasesSources_withdrawing s x))

/-! Notices -/

theorem State.ownerTakesEnd_step {s : State} {r : NoticeRef} {n : Notice} (w : WithdrawSent) (hw : w ≠ .no)
    (hn : s.notice? r = some n) : TableStep s ((s.removeNotice r).ownerTakesEnd r w) := by
  cases r with
  | done h => exact .endsDone h n hn
  | withdraw k => exact .endsWithdraw k w n hw hn

theorem State.noticeAcknowledged_steps (s : State) (r : NoticeRef) : TableSteps s (s.noticeAcknowledged r) := by
  unfold State.noticeAcknowledged
  split
  next n hn => exact .single (State.ownerTakesEnd_step _ (by simp) hn)
  next => exact .refl

theorem State.dropNotice_steps {s : State} {r : NoticeRef} {n : Notice} (hn : s.notice? r = some n) :
    TableSteps s (s.dropNotice r) :=
  .head .drops (.single (State.ownerTakesEnd_step (s := s.setDrop true) _ (by simp) hn))

theorem State.noticeUnsuccessful_steps (s : State) (r : NoticeRef) : TableSteps s (s.noticeUnsuccessful r) := by
  unfold State.noticeUnsuccessful
  split
  next n hn =>
    split
    · exact State.dropNotice_steps hn
    next ha => exact .single (.requeues r n hn (not_le.mp ha))
  next => exact .refl

/-! Entries -/

/-- Entry e is in CLOSING. -/
def Entry.isClosing (e : Entry) : Prop := ∃ o c, e = .occupied o (.closing c)

theorem Entry.moveUp_eq_closing (p : Nat) (e : Entry) (o : HeldOffer) (c : DoneOutcome) :
    Entry.moveUp p e = .occupied o (.closing c) ↔ e = .occupied o (.closing c) := by
  rcases e with _ | ⟨l, q⟩
  · simp [Entry.moveUp]
  · cases q <;> simp [Entry.moveUp]

/-- A change of one entry leaves the others that are CLOSING as they are. -/
theorem ServiceTable.sameClosing_changeEntry (t : ServiceTable) (h : Handle) (e : Entry) :
    t.sameClosing (t.changeEntry h e) (· = h) := by
  intro j hj o c
  rw [ServiceTable.entry_changeEntry, if_neg hj]
  split
  · exact Entry.moveUp_eq_closing _ _ o c
  · exact Iff.rfl

theorem ServiceTable.sameClosing.to_all {t u : ServiceTable} {h : Handle} (hs : t.sameClosing u (· = h))
    (ht : ¬ (t.entry h).isClosing) (hu : ¬ (u.entry h).isClosing) : t.sameClosing u fun _ => False := by
  intro j _ o c
  by_cases hj : j = h
  · subst hj
    exact ⟨fun e => absurd ⟨o, c, e⟩ hu, fun e => absurd ⟨o, c, e⟩ ht⟩
  · exact hs j hj o c

theorem ServiceTable.entry_completed (t : ServiceTable) (h j : Handle) (e : Entry) :
    (t.completed h e).entry j = if j = h then e else t.entry j := get_set _ _ _ _

theorem ServiceTable.sameClosing_completed (t : ServiceTable) (h : Handle) (e : Entry) :
    t.sameClosing (t.completed h e) (· = h) := by
  intro j hj o c
  rw [ServiceTable.entry_completed, if_neg hj]

/-- An entry that is neither CLOSING before nor after changes. -/
theorem TableStep.changesEntry {s : State} {h : Handle} {e : Entry} (he : (s.svt.entry h).mayBecome e)
    (hon : e.onStack = (s.svt.entry h).onStack) (hs : ¬ (s.svt.entry h).isClosing) (hu : ¬ e.isClosing) :
    TableStep s { s with svt := s.svt.changeEntry h e } :=
  .serves _ (.changes he hon) ((s.svt.sameClosing_changeEntry h e).to_all hs
    (by rwa [ServiceTable.entry_changeEntry, if_pos rfl]))

theorem State.withdrawEntry_steps {s : State} {h : Handle} (ht : ∀ o p, s.svt.entry h = .occupied o p → o.tracked = true) :
    TableSteps s (s.withdrawEntry h) := by
  unfold State.withdrawEntry
  split
  next o p he =>
    refine .single (.closes h o .withdrawn _ _ (.changes (.inr ⟨o, _, _, he, rfl, by simp⟩) (by rw [he]; rfl)) he
      (by simp) (ht _ _ he) ?_ (s.svt.sameClosing_changeEntry h _))
    rw [ServiceTable.entry_changeEntry, if_pos rfl]
  next o w he =>
    rw [← ServiceTable.changeEntry_of_onStack (by rw [he]; rfl)]
    exact .single (.changesEntry (.inr ⟨o, _, _, he, rfl, by simp⟩) (by rw [he]; rfl) (by simp [he, Entry.isClosing])
      (by simp [Entry.isClosing]))
  next => exact .refl
  next => exact .refl
  next => exact .refl

theorem State.withdrawDelivered_steps (s : State) (x : StationId) (k : SourceIndex) (g : Generation) :
    TableSteps s (s.withdrawDelivered x k g) := by
  unfold State.withdrawDelivered
  split
  next h hf =>
    refine State.withdrawEntry_steps fun o p he => ?_
    have hm := List.find?_some hf
    simp only [ServiceTable.withdrawMatches, he, Bool.and_eq_true] at hm
    obtain ⟨⟨⟨htracked, -⟩, -⟩, -⟩ := hm
    exact htracked
  next => exact .refl

theorem State.completeHandle_steps (s : State) (h : Handle) : TableSteps s (s.completeHandle h).1 := by
  have hfree : ∀ o : HeldOffer, o.endsSilently (s.svt.entry h) → TableSteps s (s.completeHandle h).1 := fun o ho => by
    have hon : (s.svt.entry h).onStack = true ∧ ¬ (s.svt.entry h).isClosing := by
      obtain ⟨w, he, -⟩ | he := ho <;> rw [he] <;> simp [Entry.onStack, Entry.isClosing]
    rw [State.completeHandle_frees ho]
    refine .single (.serves _ (.completes (.inl rfl) hon.1 rfl) ((s.svt.sameClosing_completed h _).to_all hon.2 ?_))
    rw [ServiceTable.entry_completed, if_pos rfl]
    simp [Entry.isClosing]
  have hoff : (s.svt.entry h).onStack = false → TableSteps s { s with svt := s.svt.unstack h } := fun hoff =>
    .single (.serves _ (.unstacks hoff) fun _ _ _ _ => Iff.rfl)
  rcases he : s.svt.entry h with _ | ⟨o, p⟩
  · simpa only [State.completeHandle, ServiceTable.entry_unstack, he] using hoff (by rw [he]; rfl)
  · cases p with
    | pending p => simpa only [State.completeHandle, ServiceTable.entry_unstack, he] using hoff (by rw [he]; rfl)
    | closing c => simpa only [State.completeHandle, ServiceTable.entry_unstack, he] using hoff (by rw [he]; rfl)
    | detached => exact hfree o (.inr he)
    | active w =>
      rcases ht : o.tracked with _ | _
      · exact hfree o (.inl ⟨w, he, ht⟩)
      · rw [State.completeHandle_tracked he ht]
        refine .single (.closes h o .completed _ _
          (.completes (.inr ⟨o, _, _, he, rfl, by simp⟩) (by rw [he]; rfl) rfl) he (by simp) ht ?_
          (s.svt.sameClosing_completed h _))
        rw [ServiceTable.entry_completed, if_pos rfl]

/-- The best eligible entry is PENDING and takeable (R112, R113). -/
theorem ServiceTable.takeable_of_best {t : ServiceTable} {h : Handle} (hb : t.best = some h) :
    ∃ o p, t.entry h = .occupied o (.pending p) ∧ t.takeable o = true := by
  obtain ⟨⟨j, o, p⟩, hc, rfl⟩ := Option.map_eq_some_iff.mp hb
  exact ⟨o, p, (t.mem_candidates j o p).mp (earliest_mem hc)⟩

theorem State.activate_steps {s : State} {h : Handle} (hb : s.svt.best = some h) : TableSteps s (s.activate h) := by
  obtain ⟨o, p, he, ht⟩ := ServiceTable.takeable_of_best hb
  rw [State.activate_of_occupied he]
  refine .single (.serves _ (.activates he ht) (ServiceTable.sameClosing.to_all (h := h) ?_ ?_ ?_))
  · exact s.svt.sameClosing_changeEntry h _
  · simp [he, Entry.isClosing]
  · rw [ServiceTable.entry_activated, ServiceTable.entry_changeEntry, if_pos rfl]
    simp [Entry.isClosing]

/-- Every event of the tables consists of their transitions. -/
theorem TableEvent.steps {s t : State} (h : TableEvent s t) : TableSteps s t := by
  cases h with
  | request k he => exact State.requestEvent_steps he
  | withdraw k => exact State.withdrawEvent_steps s k
  | tick k => exact State.tickSource_steps s k
  | cancel k => exact State.cancel_steps s k
  | arbitrated k won => exact State.offerArbitrated_steps s k won
  | placed k x hi hf => exact State.offerPlaced_steps x hi hf
  | notPlaced k => exact State.offerNotPlaced_steps s k
  | spreadEnds k m => exact State.spreadRoundEnds_steps s k m
  | fails k ho hc => exact .single (.fails k ho hc)
  | done x k g => exact State.doneDelivered_steps s x k g
  | hello x => exact State.helloDelivered_steps s x
  | acknowledged r => exact State.noticeAcknowledged_steps s r
  | unsuccessful r => exact State.noticeUnsuccessful_steps s r
  | dropped hn => exact State.dropNotice_steps hn
  | holdOffs f hf => exact .single (.holdOffs f hf)
  | withdrawDelivered x k g => exact State.withdrawDelivered_steps s x k g
  | completes h => exact State.completeHandle_steps s h
  | activates hb => exact State.activate_steps hb
  | threshold hn => exact .single (.serves _ (.threshold hn) fun _ _ _ _ => Iff.rfl)

theorem TableEvents.steps {s t : State} (h : TableEvents s t) : TableSteps s t := by
  induction h with
  | refl => exact .refl
  | tail _ he ih => exact ih.trans he.steps

/-- A transition reaches the three tables and the DROP alert alone. -/
theorem TableStep.moved {s t : State} (h : TableStep s t) : s.tablesMoved t := by
  cases h with
  | readies k => exact (State.enterReady_moved s k).1.tablesMoved
  | idles k => exact (State.enterIdle_moved s k).1.tablesMoved
  | expires k => exact (State.backoffExpires_moved s k).1.tablesMoved
  | releases k => exact (State.sourceMoved_trans (State.removeNotice_moved s k _) (State.enterIdle_moved _ k)).1.tablesMoved
  | endsWithdraw k w =>
    exact (State.sourceMoved_trans (State.removeNotice_moved s k _) (State.setWithdrawSent_moved _ k w)).1.tablesMoved
  | endsDone h => rw [State.freeClosing_eq]; rfl
  | hellos x =>
    generalize allHandles.foldl (ServiceTable.helloReleases x) s.svt = table
    rfl
  | marks | offers | backsOff | fails | ticks | places | withdraws | drops | requeues | holdOffs | serves | closes => rfl

/-! What the transitions are to the Service Table alone -/

theorem ServiceTable.helloReleases_steps (x : StationId) (t : ServiceTable) (h : Handle) :
    ServiceSteps t (t.helloReleases x h) := by
  unfold ServiceTable.helloReleases
  split
  next o p he =>
    split
    · cases p with
      | pending n => exact .single (.changes (.inl rfl) (by rw [he]; rfl))
      | active w => exact .single (.changes (.inr ⟨o, _, _, he, rfl, by simp⟩) (by rw [he]; rfl))
      | detached => exact .refl
      | closing c => exact .single (.changes (.inl rfl) (by rw [he]; rfl))
    · exact .refl
  next => exact .refl

theorem ServiceTable.helloReleases_foldl_steps (x : StationId) (hs : List Handle) (t : ServiceTable) :
    ServiceSteps t (hs.foldl (ServiceTable.helloReleases x) t) := by
  induction hs generalizing t with
  | nil => exact .refl
  | cons h hs ih => exact (t.helloReleases_steps x h).trans (ih _)

/-- The end of a DONE frees a CLOSING entry. -/
theorem State.freeClosing_steps (s : State) (h : Handle) : ServiceSteps s.svt (s.freeClosing h).svt := by
  unfold State.freeClosing
  split
  next o c he =>
    have hset : s.svt.setEntry h .free = s.svt.changeEntry h .free := by simp only [ServiceTable.changeEntry, he]
    rw [hset]
    exact .single (.changes (.inl rfl) (by rw [he]; rfl))
  next => exact .refl

theorem TableStep.svt {s t : State} (h : TableStep s t) : ServiceSteps s.svt t.svt := by
  cases h with
  | serves t h => exact .single h
  | closes h o c p t hstep => exact .single hstep
  | hellos x => simpa only using ServiceTable.helloReleases_foldl_steps x allHandles s.svt
  | endsDone h n => exact State.freeClosing_steps (s.removeNotice (.done h)) h
  | readies k => rw [(State.enterReady_moved s k).1.svt]
  | idles k => rw [(State.enterIdle_moved s k).1.svt]
  | expires k => rw [(State.backoffExpires_moved s k).1.svt]
  | releases k => rw [(State.enterIdle_moved (s.removeNotice (.withdraw k)) k).1.svt]; exact .refl
  | endsWithdraw k w => rw [(State.setWithdrawSent_moved (s.removeNotice (.withdraw k)) k w).1.svt]; exact .refl
  | marks | offers | backsOff | fails | ticks | places | withdraws | drops | requeues | holdOffs => exact .refl

theorem TableSteps.svt {s t : State} (h : TableSteps s t) : ServiceSteps s.svt t.svt := by
  induction h with
  | refl => exact .refl
  | tail _ hstep ih => exact ih.trans hstep.svt

end Sys2Proof.Machine
end

section
/-! An invariant of the three tables: what it has to be kept by, so that every step keeps it. -/
namespace Sys2Proof.Machine

/-- The station is in RESET or CONFIG. -/
def State.beforeJoin (s : State) : Prop := s.sc.station = .reset ∨ s.sc.station = .config

theorem not_beforeJoin_of_takesPart {s : State} (h : s.sc.station.takesPart = true) : ¬ s.beforeJoin := by
  rintro (hs | hs) <;> (rw [hs] at h; cases h)

/-- The three tables and the Configuration Store stand; an offer comes into hand with the frame of its route; in RESET
and CONFIG nothing does. -/
structure State.tablesKept (s t : State) : Prop where
  st : t.st = s.st
  svt : t.svt = s.svt
  nl : t.nl = s.nl
  cs : t.cs = s.cs
  inHand : ∀ k f, t.ts.inHand = some { item := .offer k, frame := f } →
    s.ts.inHand = some { item := .offer k, frame := f } ∨ f = s.offerFrame k
  before : t.beforeJoin → s.beforeJoin ∧ t.ts = s.ts

/-- The three tables are at their reset values with nothing in hand (R24, R150). -/
structure State.tablesCleared (s t : State) : Prop where
  st : t.st = SourceTable.reset
  svt : t.svt = ServiceTable.reset
  nl : t.nl = []
  inHand : t.ts.inHand = none
  cs : t.cs = s.cs ∨ t.cs = ConfigStore.reset

/-- The tables stand in a station that takes part before and does not go back to CONFIG. -/
theorem State.tablesKept.of_takesPart {s t : State} (hs : ¬ t.beforeJoin)
    (h : t.st = s.st ∧ t.svt = s.svt ∧ t.nl = s.nl ∧ t.cs = s.cs)
    (hi : ∀ k f, t.ts.inHand = some { item := .offer k, frame := f } →
      s.ts.inHand = some { item := .offer k, frame := f } ∨ f = s.offerFrame k) : s.tablesKept t := by
  obtain ⟨hst, hsvt, hnl, hcs⟩ := h
  exact ⟨hst, hsvt, hnl, hcs, hi, fun h => absurd h hs⟩

/-- The tables stand with the frame in hand. -/
theorem State.tablesKept.of_ts {s t : State} (hb : t.beforeJoin → s.beforeJoin)
    (h : t.st = s.st ∧ t.svt = s.svt ∧ t.nl = s.nl ∧ t.cs = s.cs) (hts : t.ts = s.ts) : s.tablesKept t := by
  obtain ⟨hst, hsvt, hnl, hcs⟩ := h
  exact ⟨hst, hsvt, hnl, hcs, fun k f hf => .inl (hts ▸ hf), fun h => ⟨hb h, hts⟩⟩

theorem State.tablesKept_refl (s : State) : s.tablesKept s := .of_ts id ⟨rfl, rfl, rfl, rfl⟩ rfl

theorem State.tablesKept_sampled (s : State) (levels : BitVec 16) :
    s.tablesKept (s.sampled levels) ∧ (s.sampled levels).sc = s.sc := by
  unfold State.sampled
  generalize (Vector.ofFn _ : Vector LineState 16) = lines
  exact ⟨.of_ts id ⟨rfl, rfl, rfl, rfl⟩ rfl, rfl⟩

/-- Only the offer in hand can have been chosen for a frame of source k. -/
theorem State.chooseFrame_offer {s : State} {k : SourceIndex} {f : Frame}
    (h : s.chooseFrame = some { item := .offer k, frame := f }) : f = s.offerFrame k := by
  unfold State.chooseFrame at h
  split at h
  · split at h <;> cases h
  · split at h
    · cases h
    · obtain ⟨j, -, hj⟩ := Option.map_eq_some_iff.mp h
      cases hj
      rfl
  · split at h
    · cases h
    · obtain ⟨j, -, hj⟩ := Option.map_eq_some_iff.mp h
      cases hj
      rfl
  all_goals cases h

/-- The Service Table after an offer is installed in entry h: it is PENDING, last in arrival order (R100, R109). -/
def ServiceTable.installed (t : ServiceTable) (h : Handle) (o : HeldOffer) : ServiceTable :=
  t.setEntry h (.occupied o (.pending t.pendingCount))

/-- The Service Table where an offer frame is over: as it was, or with the offer decided on installed in the entry
reserved for it. -/
theorem State.offerClosed_svt {s : State} (driven : List Bool) (claim : ClaimState) (installs : Bool) {f : Frame}
    (p : StationId) (hd : s.decidedFrame = some f) :
    (s.offerClosed driven claim installs f p).svt = s.svt ∨
      ∃ h o, (s.offerClosed driven claim installs f p).svt = s.svt.installed h o ∧
        (ClaimRight s → s.svt.entry h = .free ∧ s.svt.holds o.origin o.source = false) := by
  unfold State.offerClosed State.closeClaim
  cases ho : f.offer with
  | none => exact .inl rfl
  | some o =>
    cases installs with
    | false => exact .inl rfl
    | true =>
      simp only [if_true, State.install]
      cases hr : s.cu.reservation with
      | none => exact .inl (by simp [hr])
      | some h =>
        refine .inr ⟨h, o, by simp [hr, ServiceTable.installed], fun hc => ?_⟩
        obtain ⟨f', o', h', hf', ho', hr', hfree, hholds⟩ := hc.answering (by rw [hr]; rfl)
        cases hd.symm.trans hf'
        cases ho.symm.trans ho'
        cases hr.symm.trans hr'
        exact ⟨hfree, hholds⟩

theorem State.portMoved.tablesKept {s t : State} (h : s.portMoved t) : s.tablesKept t :=
  .of_ts (by unfold State.beforeJoin; rw [h.sc]; exact id) ⟨h.st, h.svt, h.nl, h.cs⟩ h.ts

theorem decidedFrame_congr {s t : State} (hsc : t.sc.station = s.sc.station) (hpbe : t.pbe.role = s.pbe.role)
    (hcur : t.pbe.current = s.pbe.current) (hts : t.ts = s.ts) (hcu : t.cu.role = s.cu.role) :
    t.decidedFrame = s.decidedFrame := by
  simp only [State.decidedFrame, hsc, hpbe, hcur, hts, hcu]

theorem ClaimRight.congr {s t : State} (h : ClaimRight s) (hsc : t.sc = s.sc) (hpbe : t.pbe = s.pbe)
    (hts : t.ts = s.ts) (hcu : t.cu = s.cu) (hsvt : t.svt = s.svt) : ClaimRight t where
  silent := hcu ▸ h.silent
  following := by rw [hcu, hsc, hpbe]; exact h.following
  answering := by
    rw [hcu, hsvt, decidedFrame_congr (by rw [hsc]) (by rw [hpbe]) (by rw [hpbe]) hts (by rw [hcu])]
    exact h.answering

section
variable {P : State → Prop} (same : ∀ s t, s.tablesKept t → P s → P t)
  (cleared : ∀ s t, s.tablesCleared t → P s → P t)
  (stores : ∀ s cs, s.sc.station = .config → (StoreInRange s → StoreInRange { s with cs := cs }) → P s →
    P { s with cs := cs })
  (table : ∀ s t, ¬ s.beforeJoin → TableStep s t → P s → P t)
  {claim : Prop} (install : ∀ s h o, (claim → s.svt.entry h = .free ∧ s.svt.holds o.origin o.source = false) → P s →
    P { s with svt := s.svt.installed h o })
include same table

omit same in
theorem TableEvents.keeps {s t : State} (h : TableEvents s t) (hb : ¬ s.beforeJoin) (hs : P s) : P t := by
  have hsteps : ∀ {t}, TableSteps s t → ¬ t.beforeJoin ∧ P t := by
    intro t h
    induction h with
    | refl => exact ⟨hb, hs⟩
    | tail _ hstep ih =>
      obtain ⟨hb, hp⟩ := ih
      exact ⟨by unfold State.beforeJoin at hb ⊢; rwa [hstep.moved.sc], table _ _ hb hstep hp⟩
  exact (hsteps h.steps).2

/-- Events of the tables between states whose tables stand. -/
theorem keeps_of_events {s a b t : State} (ha : s.tablesKept a) (hp : ¬ a.beforeJoin) (h : TableEvents a b) (hb : b.tablesKept t)
    (hs : P s) : P t :=
  same b t hb (TableEvents.keeps table h hp (same s a ha hs))

include cleared stores install

theorem Effect.keeps_tables {c : Instr} {s t : State} (h : Effect c s t) (hc : claim → ClaimRight s) (hs : P s) :
    P t := by
  have still {a : State} (hp : s.sc.station.takesPart = true) (hsc : a.sc = s.sc) : ¬ a.beforeJoin := by
    unfold State.beforeJoin
    rw [hsc]
    exact not_beforeJoin_of_takesPart hp
  have settled {s a b t : State} (hs : P s) (hu : TableEvents a b) (ha : s.tablesKept a) (hp : ¬ a.beforeJoin)
      (hsc : t.sc.station = b.sc.station) (hb : t.st = b.st ∧ t.svt = b.svt ∧ t.nl = b.nl ∧ t.cs = b.cs)
      (hi : ∀ k f, t.ts.inHand = some { item := .offer k, frame := f } →
        b.ts.inHand = some { item := .offer k, frame := f }) : P t := by
    refine keeps_of_events same table ha hp hu (.of_takesPart ?_ hb fun k f hf => .inl (hi k f hf)) hs
    unfold State.beforeJoin at hp ⊢
    rwa [hsc, hu.moved.sc]
  cases h with
  | stands => exact hs
  | resets => exact cleared s _ ⟨rfl, rfl, rfl, rfl, .inr rfl⟩ hs
  | endsReset _ hr => exact same s _ (.of_ts (fun _ => .inl hr) ⟨rfl, rfl, rfl, rfl⟩ rfl) hs
  | stores cs _ hst hr => exact stores s cs hst hr hs
  | commits | rejoins => exact cleared s _ ⟨rfl, rfl, rfl, rfl, .inl rfl⟩ hs
  | parks | unparks | helloSent | halts =>
    exact same s _ (.of_takesPart (by simp [State.beforeJoin, State.enterHalt]) ⟨rfl, rfl, rfl, rfl⟩ (by
      simp +contextual [State.enterHalt])) hs
  | acknowledges hp => exact same s _ (.of_ts (fun h => h) ⟨rfl, rfl, rfl, rfl⟩ rfl) hs
  | helloDiscarded _ hp =>
    exact same s _ (.of_takesPart (not_beforeJoin_of_takesPart (by simpa using hp)) ⟨rfl, rfl, rfl, rfl⟩ (by simp)) hs
  | works hp hu => exact settled hs hu (State.tablesKept_refl s) (still hp rfl) rfl ⟨rfl, rfl, rfl, rfl⟩ fun _ _ => id
  | cancels k hp hu =>
    exact settled hs hu (.of_ts id ⟨rfl, rfl, rfl, rfl⟩ rfl) (still hp rfl) rfl
      ⟨rfl, rfl, rfl, rfl⟩ fun _ _ => id
  | ticks levels hp hu =>
    have ha := State.tablesKept_sampled s levels
    refine settled hs hu ha.1 (still hp ha.2) ?_ ?_ ?_ <;> rw [State.tickHello_eq]
    · rfl
    · exact ⟨rfl, rfl, rfl, rfl⟩
    · exact fun _ _ => id
  | debounces _ _ _ hp _ hu => 
    exact settled hs hu (.of_ts id ⟨rfl, rfl, rfl, rfl⟩ rfl) (still hp rfl) rfl ⟨rfl, rfl, rfl, rfl⟩ fun _ _ => id
  | expires hp f hf => exact table s _ (not_beforeJoin_of_takesPart hp) (.holdOffs f hf) hs
  | retries hp => exact same s _ (.of_ts id ⟨rfl, rfl, rfl, rfl⟩ rfl) hs
  | counts _ _ _ _ hp => exact same s _ (.of_ts id ⟨rfl, rfl, rfl, rfl⟩ rfl) hs
  | enters h hp _ hh =>
    refine same s _ (.of_takesPart (still hp rfl) ⟨rfl, rfl, rfl, rfl⟩ fun k f hf => .inr ?_) hs
    exact State.chooseFrame_offer (hh.trans hf)
  | follows hp => exact same s _ (.of_ts id ⟨rfl, rfl, rfl, rfl⟩ rfl) hs
  | hears _ hp => exact same s _ (.of_ts id ⟨rfl, rfl, rfl, rfl⟩ rfl) hs
  | arbitrates h _ _ won _ hp _ hi hu =>
    refine settled hs hu (.of_takesPart (still hp rfl) ⟨rfl, rfl, rfl, rfl⟩ fun k f hf => .inl ?_) (still hp rfl)
      rfl ⟨rfl, rfl, rfl, rfl⟩ fun _ _ => id
    cases won with
    | true => exact hi.trans hf
    | false => cases hf
  | abandons _ hp =>
    exact same s _ (.of_takesPart (still hp rfl) ⟨rfl, rfl, rfl, rfl⟩ fun k f hf => by cases hf) hs
  | decides =>
    rw [State.takeDecision_moved]
    exact same s _ (.of_ts id ⟨rfl, rfl, rfl, rfl⟩ rfl) hs
  | ends _ hp _ hu =>
    exact settled hs hu (.of_ts id ⟨rfl, rfl, rfl, rfl⟩ rfl) (still hp rfl) rfl ⟨rfl, rfl, rfl, rfl⟩ (by simp)
  | offerEnds driven claim installs f p hd hu =>
    have hp := State.takesPart_of_decidedFrame hd
    have hinstalled : P { s with svt := (s.offerClosed driven claim installs f p).svt } := by
      rcases State.offerClosed_svt driven claim installs p hd with h | ⟨h, o, ht, hfree⟩
      · rw [h]; exact hs
      · rw [ht]; exact install s h o (hfree ∘ hc) hs
    have hclosed : ({ s with svt := (s.offerClosed driven claim installs f p).svt } : State).tablesKept
        (s.offerClosed driven claim installs f p) ∧ (s.offerClosed driven claim installs f p).sc = s.sc := by
      unfold State.offerClosed
      rw [State.closeClaim_moved]
      exact ⟨.of_ts id ⟨rfl, rfl, rfl, rfl⟩ rfl, rfl⟩
    exact settled hinstalled hu hclosed.1 (still hp.1 hclosed.2) rfl ⟨rfl, rfl, rfl, rfl⟩ (by simp)
  | reports hp hu => 
    refine settled hs hu (State.tablesKept_refl s) (still hp rfl) rfl ⟨rfl, rfl, rfl, rfl⟩ (by simp)

/-- What stands, the clearings, the CONFIG commands, the transitions of the tables and an installation keep, every
step keeps. -/
theorem step_keeps_tables {s t : State} (hc : claim → ClaimRight s) (hs : P s) (h : step s = .next t) : P t := by
  obtain ⟨c, rest, u, v, hu, he, hv⟩ | ⟨-, -, rfl⟩ | ⟨n, rfl⟩ := step_cases h
  · refine same v t hv.tablesKept (Effect.keeps_tables same cleared stores table install he (fun h => ?_)
      (same _ u hu.tablesKept (same s _ (.of_ts id ⟨rfl, rfl, rfl, rfl⟩ rfl) hs)))
    exact (hc h).congr hu.sc hu.pbe hu.ts hu.cu hu.svt
  · exact same s _ (.of_ts id ⟨rfl, rfl, rfl, rfl⟩ rfl) hs
  · exact same s _ (.of_ts id ⟨rfl, rfl, rfl, rfl⟩ rfl) hs

end

end Sys2Proof.Machine
end

section
/-! What the transitions make of a source record and of the ready list; counters and timers stay in their ranges. -/
namespace Sys2Proof.Machine

/-! The Source Table after a transition -/

/-- The ready list with source k at the tail of its class (R60). -/
def State.readyJoined (s : State) (k : SourceIndex) (l : List SourceIndex) : List SourceIndex :=
  joinReady (fun j => (s.route j).cls) k l

/-- The ready list without source k. -/
def State.readyLeft (s : State) (k : SourceIndex) : List SourceIndex := s.st.ready.filter fun j => j != k

theorem State.enterReady_eq (s : State) (k : SourceIndex) :
    s.enterReady k = s.putSource k (s.newOffer k (s.source k).again) (s.readyJoined k s.st.ready) := by
  have hmask : (if s.isSpread k then some (s.route k).targetMask else none) =
      if (s.route k).mode = .spread then some (s.route k).targetMask else none := by simp [State.isSpread]
  rw [State.enterReady, hmask]
  rfl

/-- A source that enters IDLE is READY at once with a new offer where a request stands (R64). -/
theorem State.enterIdle_eq (s : State) (k : SourceIndex) : s.enterIdle k =
    if (s.source k).again || s.levelAsks k then s.putSource k (s.newOffer k false) (s.readyJoined k (s.readyLeft k))
    else s.putSource k (s.idleRecord k) (s.readyLeft k) := by
  split
  next h =>
    have hsource : ((s.leaveReadyList k).setSource k (s.idleRecord k)).source k = s.idleRecord k := by
      rw [State.source_setSource, if_pos rfl]
    calc s.enterIdle k = ((s.leaveReadyList k).setSource k (s.idleRecord k)).enterReady k := if_pos h
      _ = ((s.leaveReadyList k).setSource k (s.idleRecord k)).putSource k (s.newOffer k false)
            (s.readyJoined k (s.readyLeft k)) := by
        rw [State.enterReady_eq]
        unfold State.newOffer
        rw [hsource]
        rfl
      _ = _ := putSource_setSource _ k _ _ _
  next h => exact if_neg h

theorem State.enterIdle_removeNotice (s : State) (r : NoticeRef) (k : SourceIndex) :
    (s.removeNotice r).enterIdle k = (s.enterIdle k).removeNotice r := by
  simp only [State.enterIdle, apply_ite (State.removeNotice · r)]
  rfl

/-- The records that one transition can give source k. -/
inductive RecordStep (s : State) (k : SourceIndex) : SourceRecord → Prop
  /-- The record keeps its state. -/
  | marks (r : SourceRecord) (hst : r.state = (s.source k).state) (hg : r.generation = (s.source k).generation)
      (hm : r.remaining.isSome = (s.source k).remaining.isSome)
      (hc : r.cancelPending = true → (s.source k).cancelPending = true ∨ (s.source k).state = .ready ∨
        (s.source k).state = .offering)
      (ha : r.again = true → (s.source k).again = true ∨ ((s.source k).state ≠ .idle ∧ (s.source k).state ≠ .failed))
      (hr : (s.source k).state = .idle → r.retry = (s.source k).retry) : RecordStep s k r
  | readies (again : Bool) (h : (s.source k).state ≠ .idle ∨ (s.route k).enabled = true) :
      RecordStep s k (s.newOffer k again)
  | idles (h : (s.source k).state ≠ .idle) : RecordStep s k (s.idleRecord k)
  | offers (h : (s.source k).state = .ready) : RecordStep s k { s.source k with state := .offering }
  | backsOff (retry : Byte) (h : (s.source k).state = .offering) (hc : (s.source k).cancelPending = false) :
      RecordStep s k { s.source k with state := .backoff s.cs.retryDelay.toNat, retry := retry }
  | fails (h : (s.source k).state = .offering) (hc : (s.source k).cancelPending = false) :
      RecordStep s k { s.source k with state := .failed, retry := s.cs.declineLimit, again := false }
  | ticks (t : Nat) (h : (s.source k).state = .backoff t) (ht : 1 < t) :
      RecordStep s k { s.source k with state := .backoff (t - 1) }
  | expires (t : Nat) (h : (s.source k).state = .backoff t) : RecordStep s k { s.source k with state := .ready }
  | places (x : StationId) (f : Frame) (h : (s.source k).state = .offering) (hc : (s.source k).cancelPending = false)
      (hi : s.ts.inHand = some { item := .offer k, frame := f }) (hf : f.kind ≠ .spread) :
      RecordStep s k { s.source k with state := .placed x, retry := 0 }
  | withdraws (x : StationId) (cancel : Bool)
      (h : (∃ y, (s.source k).state = .placed y) ∨ (s.source k).state = .withdrawing x .dropped ∨
        (s.source k).state = .offering ∧ ∃ f, s.ts.inHand = some { item := .offer k, frame := f } ∧ f.kind ≠ .spread)
      (hc : cancel = true → (s.source k).cancelPending = true ∧ (s.source k).state = .withdrawing x .dropped) :
      RecordStep s k { s.source k with state := .withdrawing x .no, cancelPending := cancel }
  | ends (x : StationId) (v w : WithdrawSent) (h : (s.source k).state = .withdrawing x v) :
      RecordStep s k { s.source k with state := .withdrawing x w }

/-- The ready list after a transition that gives source k the record r: the READY sources stay on it, in their
order. -/
inductive ReadyStep (s : State) (k : SourceIndex) (r : SourceRecord) : List SourceIndex → Prop
  | stands (h : r.state = .ready ↔ (s.source k).state = .ready) : ReadyStep s k r s.st.ready
  | leaves (h : r.state ≠ .ready) : ReadyStep s k r (s.readyLeft k)
  | joins (h : r.state = .ready) (h' : (s.source k).state ≠ .ready) : ReadyStep s k r (s.readyJoined k s.st.ready)
  | rejoins (h : r.state = .ready) : ReadyStep s k r (s.readyJoined k (s.readyLeft k))

/-- The Source Table after one transition: it stands, or one record changes. -/
inductive SourceStep (s : State) : SourceTable → Prop
  | stands : SourceStep s s.st
  | puts (k : SourceIndex) (r : SourceRecord) (l : List SourceIndex) (hr : RecordStep s k r)
      (hl : ReadyStep s k r l) : SourceStep s (s.putSource k r l).st

theorem State.source_of_st {s t : State} {k : SourceIndex} {r : SourceRecord} {l : List SourceIndex}
    (h : t.st = (s.putSource k r l).st) (j : SourceIndex) : t.source j = if j = k then r else s.source j := by
  unfold State.source
  rw [h]
  exact get_set _ _ _ _

theorem SourceStep.enterReady {s : State} {k : SourceIndex} (hi : (s.source k).state ≠ .ready)
    (h : (s.source k).state ≠ .idle ∨ (s.route k).enabled = true) : SourceStep s (s.enterReady k).st := by
  rw [State.enterReady_eq]
  exact .puts k _ _ (.readies _ h) (.joins rfl hi)

theorem SourceStep.enterIdle {s : State} {k : SourceIndex} (h : (s.source k).state ≠ .idle) :
    SourceStep s (s.enterIdle k).st := by
  rw [State.enterIdle_eq]
  split
  · exact .puts k _ _ (.readies false (.inl h)) (.rejoins rfl)
  · exact .puts k _ _ (.idles h) (.leaves (by simp [State.idleRecord]))

theorem SourceStep.set {s : State} {k : SourceIndex} {r : SourceRecord} (hr : RecordStep s k r)
    (hl : r.state = .ready ↔ (s.source k).state = .ready) : SourceStep s (s.setSource k r).st :=
  .puts k r _ hr (.stands hl)

/-- What a transition is to the Source Table. -/
theorem TableStep.sources {s t : State} (h : TableStep s t) : SourceStep s t.st := by
  cases h with
  | marks k r hst hg hm hc ha hr => exact .set (.marks r hst hg hm hc ha hr) (by rw [hst])
  | readies k h =>
    refine .enterReady ?_ ?_
    · obtain ⟨h, -⟩ | ⟨⟨x, h⟩, -⟩ := h <;> simp [h]
    · obtain ⟨-, h⟩ | ⟨⟨x, h⟩, -⟩ := h
      · exact .inr h
      · exact .inl (by simp [h])
  | idles k hi => exact .enterIdle hi
  | offers k h => exact .puts k _ _ (.offers h) (.leaves (by simp))
  | backsOff k retry h hc => exact .set (.backsOff retry h hc) (by simp [h])
  | fails k h hc => exact .set (.fails h hc) (by simp [h])
  | ticks k n h ht => exact .set (.ticks n h ht) (by simp [h])
  | expires k n h => exact .puts k _ _ (.expires n h) (.joins rfl (by simp [h]))
  | places k x f h hc hi hf => exact .set (.places x f h hc hi hf) (by simp [h])
  | withdraws k x cancel h hc =>
    refine .set (.withdraws x cancel h hc) ?_
    obtain ⟨y, h⟩ | h | ⟨h, -⟩ := h <;> simp [h]
  | releases k h =>
    rw [State.enterIdle_removeNotice]
    exact SourceStep.enterIdle (s := s) fun hidle => by simp [hidle, SourceState.isPlaced] at h
  | endsWithdraw k w =>
    unfold State.setWithdrawSent
    split
    next x v h => exact .set (.ends x v w h) (by simp [show (s.source k).state = _ from h])
    next => exact .stands
  | endsDone h => rw [State.freeClosing_eq]; exact .stands
  | drops | requeues | holdOffs | serves | closes | hellos => exact .stands

/-! The Notice List after a transition -/

/-- The Notice List after one transition: notices leave it, one joins it fresh or unsuccessful, or the hold-off timers
run. -/
inductive NoticeStep (s : State) : List Notice → Prop
  | leaves (p : Notice → Bool) : NoticeStep s (s.nl.filter p)
  | joins (n : Notice) (ha : n.attempts = 0) (hh : n.holdOff = none) : NoticeStep s (s.nl ++ [n])
  | requeues (p : Notice → Bool) (n : Notice) (hn : n ∈ s.nl) (ha : n.attempts + 1 < 16) :
      NoticeStep s (s.nl.filter p ++ [{ n with attempts := n.attempts + 1, holdOff := some s.cs.retryDelay.toNat }])
  | holdOffs (f : Notice → Option Nat)
      (hf : ∀ n t, f n = some t → ∃ t', n.holdOff = some t' ∧ (timerInRange t' → timerInRange t)) :
      NoticeStep s (s.nl.map fun n => { n with holdOff := f n })

theorem NoticeStep.stands (s : State) : NoticeStep s s.nl := by
  have h := NoticeStep.leaves (s := s) fun _ => true
  rwa [List.filter_true] at h

theorem State.enterIdle_nl (s : State) (k : SourceIndex) : (s.enterIdle k).nl = s.nl := by
  rw [State.enterIdle_eq]; split <;> rfl

theorem State.setWithdrawSent_nl (s : State) (k : SourceIndex) (w : WithdrawSent) :
    (s.setWithdrawSent k w).nl = s.nl := by
  unfold State.setWithdrawSent; split <;> rfl

theorem State.mem_of_notice? {s : State} {r : NoticeRef} {n : Notice} (h : s.notice? r = some n) :
    n ∈ s.nl ∧ n.ref = r := ⟨List.mem_of_find?_eq_some h, by simpa using List.find?_some h⟩

/-- What a transition is to the Notice List. -/
theorem TableStep.notices {s t : State} (h : TableStep s t) : NoticeStep s t.nl := by
  cases h with
  | idles k => rw [State.enterIdle_nl]; exact .stands s
  | withdraws k x cancel => exact .joins _ rfl rfl
  | releases k h => rw [State.enterIdle_nl]; exact .leaves _
  | endsWithdraw k w n => rw [State.setWithdrawSent_nl]; exact .leaves _
  | endsDone h => rw [State.freeClosing_eq]; exact .leaves _
  | requeues r n hn ha => exact .requeues _ n (State.mem_of_notice? hn).1 ha
  | holdOffs f hf => exact .holdOffs f hf
  | closes h o c => exact .joins _ rfl rfl
  | hellos x => exact .leaves _
  | _ => exact .stands s

/-! The counters of the three tables -/

/-- A configured retry delay is a timer's range of station ticks (R171). -/
theorem timerInRange_retryDelay {s : State} (h : StoreInRange s) : timerInRange s.cs.retryDelay.toNat := by
  obtain ⟨hdelay, -, -⟩ := h
  have hne : s.cs.retryDelay.toNat ≠ 0 := fun h0 => hdelay (BitVec.eq_of_toNat_eq h0)
  exact ⟨Nat.pos_of_ne_zero hne, Nat.le_of_lt_succ s.cs.retryDelay.isLt⟩

/-- The counters and timers of the three tables within their ranges. -/
structure TableCountersInRange (s : State) : Prop where
  store : StoreInRange s
  threshold : s.svt.threshold ≤ 16
  backoff : ∀ k t, (s.source k).state = .backoff t → timerInRange t
  attempts : ∀ n ∈ s.nl, n.attempts ≤ 15
  holdOff : ∀ n ∈ s.nl, ∀ t, n.holdOff = some t → timerInRange t

theorem ServiceStep.threshold_le {t u : ServiceTable} (h : ServiceStep t u) (ht : t.threshold ≤ 16) :
    u.threshold ≤ 16 := by
  cases h with
  | threshold hn => exact hn
  | changes => rwa [ServiceTable.changeEntry_threshold]
  | _ => exact ht

theorem ServiceSteps.threshold_le {t u : ServiceTable} (h : ServiceSteps t u) (ht : t.threshold ≤ 16) :
    u.threshold ≤ 16 := by
  induction h with
  | refl => exact ht
  | tail _ hstep ih => exact hstep.threshold_le ih

/-- A source enters BACKOFF with the retry delay, and its timer counts down (R70). -/
theorem RecordStep.backoff_inRange {s : State} {k : SourceIndex} {r : SourceRecord} (h : RecordStep s k r)
    (hd : timerInRange s.cs.retryDelay.toNat) (hs : ∀ t, (s.source k).state = .backoff t → timerInRange t) {t : Nat}
    (hr : r.state = .backoff t) : timerInRange t := by
  cases h with
  | marks r hst => exact hs t (hst ▸ hr)
  | backsOff => cases hr; exact hd
  | ticks n h ht =>
    cases hr
    obtain ⟨-, hle⟩ := hs n h
    exact ⟨by omega, by omega⟩
  | _ => cases hr

theorem SourceStep.backoff_inRange {s t : State} (h : SourceStep s t.st) (hs : TableCountersInRange s)
    (k : SourceIndex) (n : Nat) (hn : (t.source k).state = .backoff n) : timerInRange n := by
  generalize hst : t.st = table at h
  cases h with
  | stands => exact hs.backoff k n (by unfold State.source at hn ⊢; rwa [hst] at hn)
  | puts j r l hr =>
    rw [State.source_of_st hst] at hn
    split at hn
    next hk => exact hr.backoff_inRange (timerInRange_retryDelay hs.store) (hs.backoff j) hn
    next => exact hs.backoff k n hn

theorem NoticeStep.inRange {s : State} {l : List Notice} (h : NoticeStep s l) (hs : TableCountersInRange s) :
    ∀ n ∈ l, n.attempts ≤ 15 ∧ ∀ t, n.holdOff = some t → timerInRange t := by
  have hold : ∀ n ∈ s.nl, n.attempts ≤ 15 ∧ ∀ t, n.holdOff = some t → timerInRange t :=
    fun n hn => ⟨hs.attempts n hn, hs.holdOff n hn⟩
  cases h with
  | leaves p => exact fun n hn => hold n (List.mem_of_mem_filter hn)
  | joins m ha hh =>
    intro n hn
    obtain hn | rfl := by simpa using hn
    · exact hold n hn
    · exact ⟨by rw [ha]; exact Nat.zero_le _, by simp [hh]⟩
  | requeues p m hm ha =>
    intro n hn
    obtain ⟨hn, -⟩ | rfl := by simpa using hn
    · exact hold n hn
    · exact ⟨by dsimp only; omega, fun t ht => by cases ht; exact timerInRange_retryDelay hs.store⟩
  | holdOffs f hf =>
    intro n hn
    obtain ⟨m, hm, rfl⟩ := List.mem_map.mp hn
    refine ⟨hs.attempts m hm, fun t ht => ?_⟩
    obtain ⟨t', ht', hrange⟩ := hf m t ht
    exact hrange (hs.holdOff m hm t' ht')

theorem TableStep.keeps_counters {s t : State} (h : TableStep s t) (hs : TableCountersInRange s) :
    TableCountersInRange t where
  store := storeInRange_of_cs h.moved.cs hs.store
  threshold := h.svt.threshold_le hs.threshold
  backoff := h.sources.backoff_inRange hs
  attempts n hn := (h.notices.inRange hs n hn).1
  holdOff n hn := (h.notices.inRange hs n hn).2

theorem source_reset {s : State} (h : s.st = SourceTable.reset) (k : SourceIndex) : s.source k = SourceRecord.reset := by
  rw [State.source, h, SourceTable.reset, get_replicate]

theorem step_keeps_tableCounters {s t : State} (hs : TableCountersInRange s) (h : step s = .next t) :
    TableCountersInRange t := by
  refine step_keeps_tables (P := TableCountersInRange) (claim := False) (fun s t hk hs => ?_) (fun s t hc hs => ?_)
    (fun s cs _ hr hs => ⟨hr hs.store, hs.threshold, hs.backoff, hs.attempts, hs.holdOff⟩)
    (fun s t _ h => h.keeps_counters)
    (fun s h o _ hs => ⟨hs.store, hs.threshold, hs.backoff, hs.attempts, hs.holdOff⟩) False.elim hs h
  · exact ⟨storeInRange_of_cs hk.cs hs.store, hk.svt ▸ hs.threshold,
      by unfold State.source; rw [hk.st]; exact hs.backoff, hk.nl ▸ hs.attempts, hk.nl ▸ hs.holdOff⟩
  · refine ⟨?_, by rw [hc.svt]; decide, fun k n hn => ?_, by simp [hc.nl], by simp [hc.nl]⟩
    · exact hc.cs.elim (fun h => storeInRange_of_cs h hs.store) storeInRange_reset
    · rw [source_reset hc.st] at hn
      cases hn

end Sys2Proof.Machine
end

section
/-! The counters of the blocks outside the three tables stay in their ranges. -/
namespace Sys2Proof.Machine

/-- The counters of the bus, the lines, Station Control and the port within their ranges. -/
structure BlockCountersInRange (s : State) : Prop where
  store : StoreInRange s
  idleCount : s.pbe.idleCount ≤ 11
  integrationCount : s.pbe.integrationCount ≤ 96
  prescaler : s.liu.prescaler < 256 * s.cs.tickDivider.toNat
  prescalerHeld : s.beforeJoin → s.liu.prescaler = 0
  debounce : ∀ n, (s.line n).count ≤ 4
  helloRetry : ∀ t, s.sc.helloRetry = some t → timerInRange t
  inputBits : s.lp.input.length ≤ 256

theorem tickPeriods_pos {s : State} (h : StoreInRange s) : 0 < 256 * s.cs.tickDivider.toNat := by
  obtain ⟨-, hdivider, -⟩ := h
  have hne : s.cs.tickDivider.toNat ≠ 0 := fun h0 => hdivider (BitVec.eq_of_toNat_eq h0)
  omega

/-- The counters as they stand in another state. -/
theorem BlockCountersInRange.congr {s t : State} (h : BlockCountersInRange s) (hcs : t.cs = s.cs)
    (hliu : t.liu = s.liu) (hpbe : t.pbe.idleCount = s.pbe.idleCount ∧ t.pbe.integrationCount = s.pbe.integrationCount)
    (hsc : t.beforeJoin → s.beforeJoin) (hr : t.sc.helloRetry = s.sc.helloRetry) (hi : t.lp.input = s.lp.input) :
    BlockCountersInRange t where
  store := storeInRange_of_cs hcs h.store
  idleCount := hpbe.1 ▸ h.idleCount
  integrationCount := hpbe.2 ▸ h.integrationCount
  prescaler := by rw [hliu, hcs]; exact h.prescaler
  prescalerHeld hb := hliu ▸ h.prescalerHeld (hsc hb)
  debounce := by unfold State.line; rw [hliu]; exact h.debounce
  helloRetry := hr ▸ h.helloRetry
  inputBits := hi ▸ h.inputBits

theorem TableEvents.keeps_blockCounters {s t : State} (h : TableEvents s t) (hs : BlockCountersInRange s) :
    BlockCountersInRange t :=
  hs.congr h.moved.cs h.moved.liu (by rw [h.moved.pbe]; exact ⟨rfl, rfl⟩) (by unfold State.beforeJoin; rw [h.moved.sc]; exact id)
    (by rw [h.moved.sc]) h.moved.input

theorem BlockCountersInRange.settle {s : State} (h : BlockCountersInRange s) : BlockCountersInRange s.settle :=
  h.congr rfl rfl ⟨rfl, rfl⟩ id rfl (by simp)

theorem BlockCountersInRange.endFrame {s : State} (h : BlockCountersInRange s) : BlockCountersInRange s.endFrame :=
  ⟨h.store, Nat.zero_le _, h.integrationCount, h.prescaler, h.prescalerHeld, h.debounce, h.helloRetry, h.inputBits⟩

/-- Every block at its reset value. -/
theorem blockCountersInRange_reset {s : State} (hs : StoreInRange s) (hliu : s.liu = LineUnit.reset)
    (hpbe : s.pbe = BusEngine.reset) (hr : s.sc.helloRetry = none) (hi : s.lp.input.length ≤ 256) : BlockCountersInRange s where
  store := hs
  idleCount := by rw [hpbe]; decide
  integrationCount := by rw [hpbe]; decide
  prescaler := by rw [hliu]; exact tickPeriods_pos hs
  prescalerHeld _ := by rw [hliu]; rfl
  debounce n := by
    rw [State.line, hliu, LineUnit.reset, get_replicate]
    decide
  helloRetry := by rw [hr]; simp
  inputBits := hi

theorem BlockCountersInRange.sampled {s : State} (h : BlockCountersInRange s) (levels : BitVec 16) :
    BlockCountersInRange (s.sampled levels) where
  store := h.store
  idleCount := h.idleCount
  integrationCount := h.integrationCount
  prescaler := by simpa only [State.sampled] using tickPeriods_pos h.store
  prescalerHeld _ := by simp only [State.sampled]
  debounce n := by
    simp only [State.sampled, State.line, get_ofFn, State.lineStepAt, lineStep]
    exact nextCount_le _ _ _
  helloRetry := h.helloRetry
  inputBits := h.inputBits

theorem State.tickHello_retry {s : State} (h : ∀ t, s.sc.helloRetry = some t → timerInRange t) :
    ∀ t, s.tickHello.sc.helloRetry = some t → timerInRange t := by
  unfold State.tickHello
  split
  next n hn =>
    split
    · simp
    next hle =>
      intro t ht
      cases ht
      obtain ⟨-, h255⟩ := h n hn
      exact ⟨by omega, by omega⟩
  next => exact h

theorem State.count_lineDisarmed (s : State) (k : SourceIndex) (n : LineIndex) :
    ((s.lineDisarmed k).line n).count = (s.line n).count := by
  show ((s.cancelDisarms k).line n).count = _
  unfold State.cancelDisarms
  split
  · split
    · rw [State.line_setLineState]
      split
      next h => rw [h]
      next => rfl
    · rfl
  · rfl

theorem State.lineDisarmed_prescaler (s : State) (k : SourceIndex) : (s.lineDisarmed k).liu.prescaler = s.liu.prescaler := by
  show (s.cancelDisarms k).liu.prescaler = _
  unfold State.cancelDisarms
  split
  · split <;> rfl
  · rfl

theorem Effect.keeps_blockCounters {c : Instr} {s t : State} (h : Effect c s t) (hs : BlockCountersInRange s) :
    BlockCountersInRange t := by
  have hstore := h.keeps_storeInRange hs.store
  cases h with
  | stands => exact hs
  | resets => exact blockCountersInRange_reset hstore rfl rfl rfl (Nat.zero_le _)
  | endsReset _ hr => exact hs.congr rfl rfl ⟨rfl, rfl⟩ (fun _ => .inl hr) rfl rfl
  | stores cs _ hst _ =>
    exact { hs with
      store := hstore
      prescaler := by
        rw [show s.liu.prescaler = 0 from hs.prescalerHeld (.inr hst)]
        exact tickPeriods_pos hstore }
  | commits => exact blockCountersInRange_reset hstore rfl rfl rfl hs.inputBits
  | rejoins => exact blockCountersInRange_reset hstore rfl rfl rfl (Nat.zero_le _)
  | parks | unparks =>
    refine BlockCountersInRange.settle ?_
    exact hs.congr rfl rfl ⟨rfl, rfl⟩ (by simp [State.beforeJoin]) rfl rfl
  | acknowledges => exact (hs.congr (t := s.setDrop false) rfl rfl ⟨rfl, rfl⟩ id rfl rfl).settle
  | works _ hu => exact (hu.keeps_blockCounters hs).settle
  | cancels k _ hu =>
    refine (hu.keeps_blockCounters ?_).settle
    exact { hs with
      prescaler := State.lineDisarmed_prescaler s k ▸ hs.prescaler
      prescalerHeld := fun hb => (State.lineDisarmed_prescaler s k).trans (hs.prescalerHeld hb)
      debounce := fun n => State.count_lineDisarmed s k n ▸ hs.debounce n }
  | ticks levels _ hu =>
    have hu := hu.keeps_blockCounters (hs.sampled levels)
    have hr := State.tickHello_retry hu.helloRetry
    refine BlockCountersInRange.settle ?_
    rw [State.tickHello_eq]
    exact { hu with helloRetry := hr }
  | debounces n l levels _ hl hu =>
    refine (hu.keeps_blockCounters ?_).settle
    refine { hs with debounce := fun m => ?_ }
    show ((s.setLineState n l).line m).count ≤ 4
    rw [State.line_setLineState]
    split
    · exact hl
    · exact hs.debounce m
  | expires => exact hs.congr rfl rfl ⟨rfl, rfl⟩ id rfl rfl
  | retries => exact { hs with helloRetry := by simp }
  | counts _ _ _ _ _ hi hd =>
    exact { hs with idleCount := hd hs.idleCount, integrationCount := hi hs.integrationCount }
  | enters | follows | hears => exact hs.congr rfl rfl ⟨rfl, rfl⟩ id rfl rfl
  | arbitrates _ _ _ _ _ _ _ _ hu =>
    exact (hu.keeps_blockCounters (hs.congr rfl rfl ⟨rfl, rfl⟩ id rfl rfl)).settle
  | halts driven _ =>
    refine BlockCountersInRange.settle ?_
    exact hs.congr rfl rfl ⟨rfl, rfl⟩ (by simp [State.beforeJoin]) rfl rfl
  | abandons driven => exact (hs.congr (t := s.drove driven) rfl rfl ⟨rfl, rfl⟩ id rfl rfl).endFrame
  | decides =>
    rw [State.takeDecision_moved]
    exact hs.congr rfl rfl ⟨rfl, rfl⟩ id rfl rfl
  | ends driven _ _ hu =>
    exact (hu.keeps_blockCounters (hs.congr rfl rfl ⟨rfl, rfl⟩ id rfl rfl)).endFrame.settle
  | helloDiscarded =>
    refine BlockCountersInRange.settle (BlockCountersInRange.endFrame ?_)
    exact { hs with helloRetry := fun t ht => by cases ht; exact timerInRange_retryDelay hs.store }
  | helloSent =>
    refine BlockCountersInRange.settle (BlockCountersInRange.endFrame ?_)
    exact hs.congr rfl rfl ⟨rfl, rfl⟩ (by simp [State.beforeJoin]) rfl rfl
  | offerEnds driven claim installs f p _ hu =>
    refine (hu.keeps_blockCounters ?_).endFrame.settle
    unfold State.offerClosed
    rw [State.closeClaim_moved]
    exact hs.congr rfl rfl ⟨rfl, rfl⟩ id rfl rfl
  | reports _ hu =>
    refine BlockCountersInRange.settle ?_
    exact (hu.keeps_blockCounters hs).congr rfl rfl ⟨rfl, rfl⟩ id rfl rfl

theorem step_keeps_blockCounters {s t : State} (hs : BlockCountersInRange s) (h : step s = .next t) :
    BlockCountersInRange t := by
  refine step_keeps (P := BlockCountersInRange) (fun _ _ hs => hs.congr rfl rfl ⟨rfl, rfl⟩ id rfl rfl)
    (fun s t hm hs => ?_) (fun s t hc hs => ?_) (fun _ _ _ => Effect.keeps_blockCounters) hs h
  · exact { hs.congr (t := { t with lp := s.lp }) hm.cs hm.liu (by rw [hm.pbe]; exact ⟨rfl, rfl⟩)
        (by unfold State.beforeJoin; rw [hm.sc]; exact id) (by rw [hm.sc]) rfl with
      inputBits := hm.input hs.inputBits }
  · obtain ⟨hlt, hp, rfl⟩ | ⟨n, rfl⟩ := hc
    · exact { hs with prescaler := hlt, prescalerHeld := fun hb => absurd hb (not_beforeJoin_of_takesPart hp) }
    · exact hs.congr rfl rfl ⟨rfl, rfl⟩ id rfl rfl

/-- Settles O55: the counters of the tables and those of the other blocks are two invariants, each kept by every
effect. -/
theorem countersStayInRange : Obligations.CountersStayInRange := by
  intro s t hstore hs h
  have htables := step_keeps_tableCounters ⟨hstore, hs.threshold, hs.backoff, hs.attempts, hs.holdOff⟩ h
  have hblocks := step_keeps_blockCounters ⟨hstore, hs.idleCount, hs.integrationCount, hs.prescaler, hs.prescalerHeld,
    hs.debounce, hs.helloRetry, hs.inputBits⟩ h
  exact ⟨htables.threshold, hblocks.idleCount, hblocks.integrationCount, hblocks.prescaler, hblocks.prescalerHeld,
    hblocks.debounce, hblocks.helloRetry, htables.backoff, htables.attempts, htables.holdOff, hblocks.inputBits⟩

end Sys2Proof.Machine
end

section
/-! Source records keep the fields of their states, and the ready list holds the READY sources. -/
namespace Sys2Proof.Machine

/-- A record has the fields that its state and its routing give it (R58, Table 4-1). -/
structure RecordRight (spread enabled : Bool) (r : SourceRecord) : Prop where
  mask : r.remaining.isSome = (spread && r.state.keepsMask)
  cancel : r.cancelPending = true → r.state = .ready ∨ r.state = .offering
  again : r.again = true → r.state ≠ .idle ∧ r.state ≠ .failed
  idleRetry : r.state = .idle → r.retry = 0
  tracked : r.state.isPlaced = true → spread = false
  disabled : enabled = false → r.state = .idle

theorem sourceRecordRight_iff (s : State) (k : SourceIndex) :
    SourceRecordRight s k ↔ RecordRight (s.isSpread k) (s.route k).enabled (s.source k) :=
  ⟨fun h => ⟨h.mask, h.cancel, h.again, h.idleRetry, h.tracked, h.disabled⟩,
    fun h => ⟨h.mask, h.cancel, h.again, h.idleRetry, h.tracked, h.disabled⟩⟩

/-- An IDLE record without a mask and without flags is right in every routing. -/
theorem RecordRight.of_idle {spread enabled : Bool} {r : SourceRecord} (hs : r.state = .idle) (hm : r.remaining = none)
    (hc : r.cancelPending = false) (ha : r.again = false) (hr : r.retry = 0) : RecordRight spread enabled r where
  mask := by rw [hm, hs]; simp [SourceState.keepsMask]
  cancel := by simp [hc]
  again := by simp [ha]
  idleRetry _ := hr
  tracked := by simp [hs, SourceState.isPlaced]
  disabled _ := hs

theorem RecordRight.enabled_of_not_idle {spread enabled : Bool} {r : SourceRecord} (h : RecordRight spread enabled r)
    (hi : r.state ≠ .idle) : enabled = true := by
  cases he : enabled with
  | true => rfl
  | false => exact absurd (h.disabled he) hi

/-- A record that leaves IDLE out keeps its mask with its state. -/
theorem RecordRight.with_state {spread enabled : Bool} {r r' : SourceRecord} (h : RecordRight spread enabled r)
    (hi : r.state ≠ .idle) (hi' : r'.state ≠ .idle) (hm : r'.remaining = r.remaining)
    (hk : r'.state.keepsMask = r.state.keepsMask ∨ spread = false) (hp : r'.state.isPlaced = true → spread = false)
    (hc : r'.cancelPending = true → r'.state = .ready ∨ r'.state = .offering)
    (ha : r'.again = true → r'.state ≠ .failed) : RecordRight spread enabled r' where
  mask := by
    rw [hm, h.mask]
    obtain hk | hk := hk <;> simp [hk]
  cancel := hc
  again ht := ⟨hi', ha ht⟩
  idleRetry ht := absurd ht hi'
  tracked := hp
  disabled he := absurd (h.disabled he) hi

theorem RecordStep.keeps_right {s : State} {k : SourceIndex} {r : SourceRecord} (h : RecordStep s k r)
    (hi : ∀ f, s.ts.inHand = some { item := .offer k, frame := f } → (f.kind = .spread ↔ s.isSpread k = true))
    (hs : RecordRight (s.isSpread k) (s.route k).enabled (s.source k)) :
    RecordRight (s.isSpread k) (s.route k).enabled r := by
  have notSpread {f : Frame} (hf : s.ts.inHand = some { item := .offer k, frame := f }) (hk : f.kind ≠ .spread) :
      s.isSpread k = false := Bool.eq_false_iff.mpr fun h => hk ((hi f hf).mpr h)
  cases h with
  | marks r hst hg hm hc ha hr =>
    exact ⟨by rw [hm, hst]; exact hs.mask, fun h => by rw [hst]; exact (hc h).elim hs.cancel id,
      fun h => by rw [hst]; exact (ha h).elim hs.again id, fun h => (hr (hst ▸ h)).trans (hs.idleRetry (hst ▸ h)),
      by rw [hst]; exact hs.tracked, fun h => hst.trans (hs.disabled h)⟩
  | readies again h =>
    have he : (s.route k).enabled = true := h.elim hs.enabled_of_not_idle id
    refine ⟨?_, by simp [State.newOffer], by simp [State.newOffer], by simp [State.newOffer],
      by simp [State.newOffer, SourceState.isPlaced], by simp [he]⟩
    by_cases hm : (s.route k).mode = .spread <;> simp [State.newOffer, State.isSpread, hm, SourceState.keepsMask]
  | idles h => exact .of_idle rfl rfl rfl rfl rfl
  | offers h =>
    exact hs.with_state (by simp [h]) (by simp) rfl (.inl (by rw [h]; rfl)) (by simp [SourceState.isPlaced]) (by simp)
      (by simp)
  | backsOff retry h hc =>
    exact hs.with_state (by simp [h]) (by simp) rfl (.inl (by rw [h]; rfl)) (by simp [SourceState.isPlaced])
      (by simp [hc]) (by simp)
  | fails h hc =>
    exact hs.with_state (by simp [h]) (by simp) rfl (.inl (by rw [h]; rfl)) (by simp [SourceState.isPlaced])
      (by simp [hc]) (by simp)
  | ticks t h ht =>
    exact hs.with_state (by simp [h]) (by simp) rfl (.inl (by rw [h]; rfl)) (by simp [SourceState.isPlaced])
      (fun hc => by simpa [h] using hs.cancel hc) (by simp)
  | expires t h =>
    exact hs.with_state (by simp [h]) (by simp) rfl (.inl (by rw [h]; rfl)) (by simp [SourceState.isPlaced]) (by simp)
      (by simp)
  | places x f h hc hf hk =>
    exact hs.with_state (by simp [h]) (by simp) rfl (.inr (notSpread hf hk)) (fun _ => notSpread hf hk) (by simp [hc])
      (by simp)
  | withdraws x cancel h hc =>
    have hspread : s.isSpread k = false := by
      obtain ⟨y, h⟩ | h | ⟨-, f, hf, hk⟩ := h
      · exact hs.tracked (by rw [h]; rfl)
      · exact hs.tracked (by rw [h]; rfl)
      · exact notSpread hf hk
    have hcancel : cancel = false := by
      refine Bool.eq_false_iff.mpr fun hp => ?_
      obtain ⟨hp, hw⟩ := hc hp
      simpa [hw] using hs.cancel hp
    refine hs.with_state ?_ (by simp) rfl (.inr hspread) (fun _ => hspread) (by simp [hcancel]) (by simp)
    obtain ⟨y, h⟩ | h | ⟨h, -⟩ := h <;> simp [h]
  | ends x v w h =>
    have hspread : s.isSpread k = false := hs.tracked (by rw [h]; rfl)
    exact hs.with_state (by simp [h]) (by simp) rfl (.inr hspread) (fun _ => hspread)
      (fun hc => by simpa [h] using hs.cancel hc) (by simp)

/-- The records of a Source Table after a transition, each as it was or the one that changed. -/
theorem SourceStep.source {s t : State} (h : SourceStep s t.st) (k : SourceIndex) :
    t.source k = s.source k ∨ RecordStep s k (t.source k) := by
  generalize hst : t.st = table at h
  cases h with
  | stands => exact .inl (by unfold State.source; rw [hst])
  | puts j r l hr =>
    rw [State.source_of_st hst]
    split
    next hk => subst hk; exact .inr hr
    next => exact .inl rfl

theorem offerFrame_kind (s : State) (k : SourceIndex) : (s.offerFrame k).kind = .spread ↔ s.isSpread k = true := by
  cases hm : (s.route k).mode <;> simp [State.offerFrame, State.isSpread, hm, Frame.kind]

theorem isSpread_of_cs {s t : State} (h : t.cs = s.cs) (k : SourceIndex) : t.isSpread k = s.isSpread k := by
  unfold State.isSpread State.route
  rw [h]

theorem TableStep.keeps_sources {s t : State} (hb : ¬ s.beforeJoin) (h : TableStep s t) (hs : SourcesRight s) :
    SourcesRight t where
  records k := by
    have hk := (sourceRecordRight_iff s k).mp (hs.records k)
    rw [sourceRecordRight_iff, isSpread_of_cs h.moved.cs, State.route, h.moved.cs]
    rcases h.sources.source k with he | hr
    · rwa [he]
    · exact hr.keeps_right (hs.inHand k) hk
  inHand k f hf := by
    rw [isSpread_of_cs h.moved.cs]
    exact hs.inHand k f (h.moved.ts ▸ hf)
  idleBeforeJoin hj := absurd (show s.beforeJoin by rwa [h.moved.sc] at hj) hb

theorem SourcesRight.of_kept {s t : State} (h : s.tablesKept t) (hs : SourcesRight s) : SourcesRight t where
  records k := by
    have hk := (sourceRecordRight_iff s k).mp (hs.records k)
    rw [sourceRecordRight_iff, isSpread_of_cs h.cs, State.route, h.cs, State.source, h.st]
    exact hk
  inHand k f hf := by
    rw [isSpread_of_cs h.cs]
    obtain hf | rfl := h.inHand k f hf
    · exact hs.inHand k f hf
    · exact offerFrame_kind s k
  idleBeforeJoin hj := by
    obtain ⟨hb, hts⟩ := h.before hj
    unfold State.source
    rw [hts, h.st]
    exact hs.idleBeforeJoin hb

theorem sourcesRight_cleared {s : State} (hst : s.st = SourceTable.reset) (hi : s.ts.inHand = none) :
    SourcesRight s where
  records k := by
    rw [sourceRecordRight_iff, source_reset hst]
    exact .of_idle rfl rfl rfl rfl rfl
  inHand := by simp [hi]
  idleBeforeJoin _ := ⟨hi, fun k => by rw [source_reset hst]; rfl⟩

/-- In CONFIG every source is IDLE, so its record is right in any routing. -/
theorem SourcesRight.with_store {s : State} (hc : s.sc.station = .config) (hs : SourcesRight s) (cs : ConfigStore) :
    SourcesRight { s with cs := cs } := by
  obtain ⟨hi, hidle⟩ := hs.idleBeforeJoin (.inr hc)
  refine ⟨fun k => ?_, fun k f hf => absurd (hi.symm.trans hf) (by simp), hs.idleBeforeJoin⟩
  have hk := hs.records k
  have hmask : (s.source k).remaining = none := by simpa [hidle k, SourceState.keepsMask] using hk.mask
  have hcancel : (s.source k).cancelPending = false :=
    Bool.eq_false_iff.mpr fun h => by simpa [hidle k] using hk.cancel h
  have hagain : (s.source k).again = false := Bool.eq_false_iff.mpr fun h => by simpa [hidle k] using hk.again h
  exact (sourceRecordRight_iff { s with cs := cs } k).mpr
    (.of_idle (hidle k) hmask hcancel hagain (hk.idleRetry (hidle k)))

theorem SourcesRight.with_svt {s : State} (hs : SourcesRight s) (t : ServiceTable) : SourcesRight { s with svt := t } :=
  ⟨fun k => (sourceRecordRight_iff { s with svt := t } k).mpr ((sourceRecordRight_iff s k).mp (hs.records k)),
    hs.inHand, hs.idleBeforeJoin⟩

theorem step_keeps_sources {s t : State} (hs : SourcesRight s) (h : step s = .next t) : SourcesRight t :=
  step_keeps_tables (P := SourcesRight) (claim := False) (fun _ _ hk => .of_kept hk)
    (fun _ _ hc _ => sourcesRight_cleared hc.st hc.inHand) (fun _ cs hc _ hs => hs.with_store hc cs)
    (fun _ _ hb h hs => h.keeps_sources hb hs)
    (fun _ _ _ _ hs => hs.with_svt _) False.elim hs h

/-! The ready list -/

/-- The ready list holds each READY source once, ordered by class (R60). -/
structure ReadyListOrdered (s : State) : Prop where
  members : ∀ k, k ∈ s.st.ready ↔ (s.source k).state = .ready
  once : s.st.ready.Nodup
  ordered : s.st.ready.Pairwise fun j k => (s.route j).cls ≤ (s.route k).cls

theorem State.mem_readyLeft (s : State) (k j : SourceIndex) : j ∈ s.readyLeft k ↔ j ∈ s.st.ready ∧ j ≠ k := by
  simp [State.readyLeft]

theorem ReadyStep.keeps_ordered {s t : State} {k : SourceIndex} {r : SourceRecord} {l : List SourceIndex}
    (h : ReadyStep s k r l) (hst : t.st = (s.putSource k r l).st) (hcs : t.cs = s.cs) (hs : ReadyListOrdered s) :
    ReadyListOrdered t := by
  have hsource (j : SourceIndex) : (t.source j).state = if j = k then r.state else (s.source j).state := by
    rw [State.source_of_st hst]
    split <;> rfl
  have hready : t.st.ready = l := by rw [hst]; rfl
  have hcls : (fun j => (t.route j).cls) = fun j => (s.route j).cls := by unfold State.route; rw [hcs]
  have hnotMem : k ∉ s.readyLeft k := by simp [State.mem_readyLeft]
  have hleft : (s.readyLeft k).Nodup ∧ (s.readyLeft k).Pairwise fun j i => (s.route j).cls ≤ (s.route i).cls :=
    ⟨hs.once.filter _, hs.ordered.filter _⟩
  have close (hmem : ∀ j, j ∈ l ↔ if j = k then r.state = .ready else (s.source j).state = .ready) (honce : l.Nodup)
      (hord : l.Pairwise fun j i => (s.route j).cls ≤ (s.route i).cls) : ReadyListOrdered t := by
    refine ⟨fun j => ?_, hready ▸ honce, ?_⟩
    · rw [hready, hmem, hsource]
      split <;> exact Iff.rfl
    · unfold State.route
      rw [hready, hcs]
      exact hord
  cases h with
  | stands h =>
    refine close (fun j => ?_) hs.once hs.ordered
    rw [hs.members]
    split
    next hj => rw [hj, h]
    next => exact Iff.rfl
  | leaves h =>
    refine close (fun j => ?_) hleft.1 hleft.2
    rw [State.mem_readyLeft, hs.members]
    split
    next hj => simp [hj, h]
    next hj => simp [hj]
  | joins h h' =>
    have hk : k ∉ s.st.ready := fun hm => h' ((hs.members k).mp hm)
    refine close (fun j => ?_) (nodup_joinReady _ _ _ hk hs.once) (sorted_joinReady _ _ _ hs.ordered)
    rw [State.readyJoined, mem_joinReady, hs.members]
    split
    next hj => simp [hj, h]
    next hj => simp [hj]
  | rejoins h =>
    refine close (fun j => ?_) (nodup_joinReady _ _ _ hnotMem hleft.1) (sorted_joinReady _ _ _ hleft.2)
    rw [State.readyJoined, mem_joinReady, State.mem_readyLeft, hs.members]
    split
    next hj => simp [hj, h]
    next hj => simp [hj]

theorem ReadyListOrdered.congr {s t : State} (h : ReadyListOrdered s) (hst : t.st = s.st) (hcs : t.cs = s.cs) :
    ReadyListOrdered t := by
  refine ⟨?_, hst ▸ h.once, ?_⟩
  · unfold State.source; rw [hst]; exact h.members
  · unfold State.route; rw [hst, hcs]; exact h.ordered

theorem TableStep.keeps_ordered {s t : State} (h : TableStep s t) (hs : ReadyListOrdered s) : ReadyListOrdered t := by
  have hsources := h.sources
  generalize hst : t.st = table at hsources
  cases hsources with
  | stands => exact hs.congr hst h.moved.cs
  | puts k r l _ hl => exact hl.keeps_ordered hst h.moved.cs hs

theorem readyListOrdered_empty {s : State} (hl : s.st.ready = []) (hi : ∀ k, (s.source k).state ≠ .ready) :
    ReadyListOrdered s := ⟨by simp [hl, hi], by simp [hl], by simp [hl]⟩

/-- The ready list is ordered and, in RESET and CONFIG, empty with every source IDLE. -/
structure ReadyListKept (s : State) : Prop where
  sources : SourcesRight s
  ordered : ReadyListOrdered s

/-- Where every source is IDLE the ready list is empty. -/
theorem ReadyListOrdered.empty {s : State} (h : ReadyListOrdered s) (hi : ∀ k, (s.source k).state = .idle) :
    s.st.ready = [] := by
  rw [List.eq_nil_iff_forall_not_mem]
  intro k hk
  simpa [hi k] using (h.members k).mp hk

theorem step_keeps_readyList {s t : State} (hs : ReadyListKept s) (h : step s = .next t) : ReadyListKept t := by
  refine step_keeps_tables (P := ReadyListKept) (claim := False) (fun s t hk hs => ⟨.of_kept hk hs.sources, ?_⟩)
    (fun s t hc _ => ⟨sourcesRight_cleared hc.st hc.inHand, ?_⟩) (fun s cs hc _ hs => ⟨hs.sources.with_store hc cs, ?_⟩)
    (fun s t hb h hs => ⟨h.keeps_sources hb hs.sources, h.keeps_ordered hs.ordered⟩)
    (fun s h o _ hs => ⟨hs.sources.with_svt _, hs.ordered.congr rfl rfl⟩) False.elim hs h
  · exact hs.ordered.congr hk.st hk.cs
  · exact readyListOrdered_empty (by rw [hc.st]; rfl) fun k => by rw [source_reset hc.st]; simp [SourceRecord.reset]
  · obtain ⟨-, hidle⟩ := hs.sources.idleBeforeJoin (.inr hc)
    exact readyListOrdered_empty (hs.ordered.empty hidle) fun k => by
      rw [show ({ s with cs := cs } : State).source k = s.source k from rfl, hidle k]
      simp

/-- Settles O56: the record of each source is kept by every transition of the tables, and the ready list with it. -/
theorem sourcesAndReadyListStayRight : Obligations.SourcesAndReadyListStayRight := by
  refine ⟨fun s t => step_keeps_sources, fun s t hl hs h => ?_⟩
  obtain ⟨hsources, hordered⟩ := step_keeps_readyList ⟨hs, hl.members, hl.once, hl.ordered⟩ h
  exact ⟨hordered.members, hordered.once, hordered.ordered,
    fun hb => hordered.empty (hsources.idleBeforeJoin hb).2⟩

end Sys2Proof.Machine
end

section
/-! The Service Table over whole runs: no duplicate offers, a nested stack, dense arrival positions. -/
namespace Sys2Proof.Machine

/-! What a transition keeps of the offers -/

theorem Entry.mayBecome.offer {a e : Entry} (h : a.mayBecome e) {o : HeldOffer} (he : e.offer? = some o) :
    a.offer? = some o := by
  obtain rfl | ⟨l, p, q, rfl, rfl, -⟩ := h
  · cases he
  · exact he

theorem ServiceTable.offer_changeEntry {t : ServiceTable} {h j : Handle} {e : Entry} {o : HeldOffer}
    (hb : ∀ o, e.offer? = some o → (t.entry h).offer? = some o) (he : ((t.changeEntry h e).entry j).offer? = some o) :
    (t.entry j).offer? = some o := by
  rw [ServiceTable.entry_changeEntry] at he
  split at he
  next hj => subst hj; exact hb o he
  next =>
    split at he
    · rwa [Entry.moveUp_offer] at he
    · exact he

/-- An entry holds after a transition no other offer than before. -/
theorem ServiceStep.offer {t u : ServiceTable} (h : ServiceStep t u) {j : Handle} {o : HeldOffer}
    (he : (u.entry j).offer? = some o) : (t.entry j).offer? = some o := by
  cases h with
  | threshold | unstacks => exact he
  | changes hb => exact ServiceTable.offer_changeEntry (fun _ => hb.offer) he
  | @completes h e hb =>
    rw [ServiceTable.entry_completed] at he
    split at he
    next hj => subst hj; exact hb.offer he
    next => exact he
  | activates heh => exact ServiceTable.offer_changeEntry (fun l hl => by rw [heh]; exact hl) he

theorem ServiceSteps.offer {t u : ServiceTable} (h : ServiceSteps t u) {j : Handle} {o : HeldOffer}
    (he : (u.entry j).offer? = some o) : (t.entry j).offer? = some o := by
  induction h with
  | refl => exact he
  | tail _ hstep ih => exact ih (hstep.offer he)

theorem Entry.offer_eq_some {e : Entry} {o : HeldOffer} : e.offer? = some o ↔ ∃ p, e = .occupied o p := by
  cases e with
  | free => simp [Entry.offer?]
  | occupied l p => simp [Entry.offer?]

theorem Entry.offer_eq_none {e : Entry} : e.offer? = none ↔ e = .free := by
  cases e <;> simp [Entry.offer?]

theorem ServiceTable.entry_installed (t : ServiceTable) (h j : Handle) (o : HeldOffer) :
    (t.installed h o).entry j = if j = h then .occupied o (.pending t.pendingCount) else t.entry j :=
  ServiceTable.entry_setEntry t h j _

theorem ServiceTable.entry_reset (h : Handle) : ServiceTable.reset.entry h = .free := by
  rw [ServiceTable.entry, ServiceTable.reset, get_replicate]

/-! No duplicate offers (R89) -/

/-- Two entries that hold offers of one origin and source are one. -/
def ServiceTable.noDuplicates (t : ServiceTable) : Prop :=
  ∀ h j o o', (t.entry h).offer? = some o → (t.entry j).offer? = some o' → o.origin = o'.origin →
    o.source = o'.source → h = j

theorem noDuplicateEntries_iff (s : State) : NoDuplicateEntries s ↔ s.svt.noDuplicates := by
  constructor
  · intro h i j o o' ho ho'
    obtain ⟨p, hi⟩ := Entry.offer_eq_some.mp ho
    obtain ⟨q, hj⟩ := Entry.offer_eq_some.mp ho'
    exact h i j o p o' q hi hj
  · intro h i j o p o' q hi hj
    exact h i j o o' (by rw [hi]; rfl) (by rw [hj]; rfl)

theorem ServiceTable.noDuplicates.steps {t u : ServiceTable} (h : t.noDuplicates) (hs : ServiceSteps t u) :
    u.noDuplicates := fun i j _ _ hi hj => h i j _ _ (hs.offer hi) (hs.offer hj)

theorem ServiceTable.holds_eq_false_iff (t : ServiceTable) (x : StationId) (k : SourceIndex) :
    t.holds x k = false ↔ ∀ h o, (t.entry h).offer? = some o → o.origin = x → o.source ≠ k := by
  rw [← Bool.not_eq_true, ServiceTable.holds_iff]
  constructor
  · intro hn h o ho hx hk
    obtain ⟨p, hp⟩ := Entry.offer_eq_some.mp ho
    exact hn ⟨h, o, p, hp, hx, hk⟩
  · rintro hn ⟨h, o, p, hp, hx, hk⟩
    exact hn h o (by rw [hp]; rfl) hx hk

theorem ServiceTable.noDuplicates.installed {t : ServiceTable} (hd : t.noDuplicates) {h : Handle} {o : HeldOffer}
    (hholds : t.holds o.origin o.source = false) : (t.installed h o).noDuplicates := by
  have hn := (t.holds_eq_false_iff _ _).mp hholds
  intro i j a b ha hb horigin hsource
  rw [ServiceTable.entry_installed] at ha hb
  split at ha
  next hi =>
    split at hb
    next hj => rw [hi, hj]
    next =>
      cases ha
      exact absurd hsource.symm (hn j b hb horigin.symm)
  next =>
    split at hb
    next =>
      cases hb
      exact absurd hsource (hn i a ha horigin)
    next => exact hd i j a b ha hb horigin hsource

theorem step_keeps_noDuplicates {s t : State} (hc : ClaimRight s) (hs : s.svt.noDuplicates) (h : step s = .next t) :
    t.svt.noDuplicates := by
  refine step_keeps_tables (P := fun s => s.svt.noDuplicates) (claim := True) (fun s t hk hs => hk.svt ▸ hs)
    (fun s t ht _ => ?_) (fun _ _ _ _ => id) (fun s t _ h hs => hs.steps h.svt)
    (fun s h o hfree hs => hs.installed (hfree trivial).2) (fun _ => hc) hs h
  intro h j o o' ho
  rw [ht.svt, ServiceTable.entry_reset] at ho
  cases ho

/-! The in-service stack (R111) -/

/-- The stack holds each ACTIVE or DETACHED entry once, at most 8 of them, nested by class (R111). -/
structure ServiceTable.stackRight (t : ServiceTable) : Prop where
  members : ∀ h, h ∈ t.stack ↔ (t.entry h).onStack = true
  once : t.stack.Nodup
  depth : t.stack.length ≤ 8
  nested : t.stack.Pairwise fun h j => ∀ u l, (t.entry h).offer? = some u → (t.entry j).offer? = some l → u.above l

theorem stackRight_iff (s : State) : StackRight s ↔ s.svt.stackRight := by
  have hnested : (s.svt.stack.Pairwise fun h j => ∀ u p l q, s.svt.entry h = .occupied u p →
        s.svt.entry j = .occupied l q → u.above l) ↔
      s.svt.stack.Pairwise fun h j => ∀ u l, (s.svt.entry h).offer? = some u → (s.svt.entry j).offer? = some l →
        u.above l := by
    simp only [Entry.offer_eq_some]
    exact List.Pairwise.iff fun h j =>
      ⟨fun hp u l ⟨p, hu⟩ ⟨q, hl⟩ => hp u p l q hu hl, fun hp u p l q hu hl => hp u l ⟨p, hu⟩ ⟨q, hl⟩⟩
  exact ⟨fun h => ⟨h.members, h.once, h.depth, hnested.mp h.nested⟩,
    fun h => ⟨h.members, h.once, h.depth, hnested.mpr h.nested⟩⟩

theorem Entry.moveUp_onStack (p : Nat) (e : Entry) : (Entry.moveUp p e).onStack = e.onStack := by
  rcases e with _ | ⟨o, ph⟩
  · rfl
  · cases ph <;> rfl

theorem ServiceTable.onStack_changeEntry (t : ServiceTable) (h j : Handle) (e : Entry) :
    ((t.changeEntry h e).entry j).onStack = if j = h then e.onStack else (t.entry j).onStack := by
  rw [ServiceTable.entry_changeEntry]
  split
  · rfl
  · split
    · exact Entry.moveUp_onStack _ _
    · rfl

/-- The order of the stack is transitive. -/
theorem HeldOffer.above_trans {a b c : HeldOffer} (h : a.above b) (h' : b.above c) : a.above c := by
  unfold HeldOffer.above at *
  obtain h | ⟨h, hr⟩ := h
  · obtain h' | ⟨h', -⟩ := h'
    · exact .inl (BitVec.lt_trans h h')
    · exact .inl (h' ▸ h)
  · obtain h' | ⟨h', -⟩ := h'
    · exact .inl (h ▸ h')
    · exact .inr ⟨h.trans h', hr⟩

/-- A takeable offer goes above the whole stack (R111, R112). -/
theorem ServiceTable.stackRight.above {t : ServiceTable} (hs : t.stackRight) {o : HeldOffer}
    (ht : t.takeable o = true) : t.stack.length < 8 ∧
      ∀ j ∈ t.stack, ∀ l, (t.entry j).offer? = some l → o.above l := by
  have hfree : ∀ j ∈ t.stack, t.entry j ≠ .free := fun j hj hf => by
    have := (hs.members j).mp hj
    rw [hf] at this
    cases this
  obtain ⟨-, hlen, htop⟩ := (t.takeable_iff o hfree).mp ht
  refine ⟨hlen, fun j hj l hl => ?_⟩
  obtain hnil | ⟨top, rest, m, q, hstack, htop, hnest⟩ := htop
  · rw [hnil] at hj
    cases hj
  · rw [hstack] at hj
    obtain rfl | hj := List.mem_cons.mp hj
    · rw [htop] at hl
      cases hl
      exact hnest
    · have hn := hs.nested
      rw [hstack, List.pairwise_cons] at hn
      exact HeldOffer.above_trans hnest (hn.1 j hj m l (by rw [htop]; rfl) hl)

theorem ServiceTable.stackRight.mono {t u : ServiceTable} (hs : t.stackRight) (hstack : u.stack.Sublist t.stack)
    (hm : ∀ h, h ∈ u.stack ↔ (u.entry h).onStack = true)
    (ho : ∀ j o, (u.entry j).offer? = some o → (t.entry j).offer? = some o ∨ j ∉ u.stack) : u.stackRight where
  members := hm
  once := hs.once.sublist hstack
  depth := hstack.length_le.trans hs.depth
  nested := by
    refine (hs.nested.sublist hstack).imp_of_mem fun {h j} hh hj hn a b ha hb => ?_
    exact hn a b ((ho h a ha).resolve_right (not_not_intro hh)) ((ho j b hb).resolve_right (not_not_intro hj))

theorem ServiceStep.keeps_stack {t u : ServiceTable} (h : ServiceStep t u) (hs : t.stackRight) : u.stackRight := by
  have hoffer {j : Handle} {o : HeldOffer} (he : (u.entry j).offer? = some o) := h.offer he
  cases h with
  | threshold => exact hs.mono (.refl _) hs.members fun j o he => .inl he
  | @changes h e _ hon =>
    refine hs.mono (by rw [ServiceTable.changeEntry_stack]) (fun j => ?_) fun j o he => .inl (hoffer he)
    rw [ServiceTable.changeEntry_stack, ServiceTable.onStack_changeEntry, hs.members]
    split
    next hj => rw [hj, hon]
    next => exact Iff.rfl
  | @completes h e _ hon hoff =>
    refine hs.mono List.filter_sublist (fun j => ?_) fun j o he => .inl (hoffer he)
    rw [ServiceTable.entry_completed]
    show j ∈ t.stack.filter (fun j => j != h) ↔ _
    rw [List.mem_filter, hs.members]
    split
    next hj => simp [hj, hoff]
    next hj => simp [hj]
  | @unstacks h hoff =>
    refine hs.mono List.filter_sublist (fun j => ?_) fun j o he => .inl he
    show j ∈ t.stack.filter (fun j => j != h) ↔ _
    rw [List.mem_filter, hs.members, ServiceTable.entry_unstack]
    refine ⟨fun hj => hj.1, fun hj => ⟨hj, bne_iff_ne.mpr fun hjh => ?_⟩⟩
    rw [hjh, hoff] at hj
    cases hj
  | @activates h o p he ht =>
    obtain ⟨hlen, habove⟩ := hs.above ht
    have hnot : h ∉ t.stack := fun hm => by
      have := (hs.members h).mp hm
      rw [he] at this
      cases this
    have hself : (t.entry h).offer? = some o := by rw [he]; rfl
    refine ⟨fun j => ?_, List.nodup_cons.mpr ⟨hnot, hs.once⟩, hlen, List.pairwise_cons.mpr ⟨fun j hj a b ha hb => ?_, ?_⟩⟩
    · rw [ServiceTable.entry_activated, ServiceTable.onStack_changeEntry]
      show j ∈ h :: t.stack ↔ _
      rw [List.mem_cons, hs.members]
      split
      next hj => simp [hj, Entry.onStack]
      next hj => simp [hj]
    · cases hself.symm.trans (hoffer ha)
      exact habove j hj b (hoffer hb)
    · exact hs.nested.imp fun hn a b ha hb => hn a b (hoffer ha) (hoffer hb)

theorem ServiceTable.stackRight.installed {t : ServiceTable} (hs : t.stackRight) {h : Handle} {o : HeldOffer}
    (hfree : t.entry h = .free) : (t.installed h o).stackRight := by
  have hnot : h ∉ t.stack := fun hm => by
    have := (hs.members h).mp hm
    rw [hfree] at this
    cases this
  refine hs.mono (.refl _) (fun j => ?_) fun j l hl => ?_
  · rw [ServiceTable.entry_installed]
    show j ∈ t.stack ↔ _
    rw [hs.members]
    split
    next hj => rw [hj, hfree]; rfl
    next => exact Iff.rfl
  · rw [ServiceTable.entry_installed] at hl
    split at hl
    next hj => exact .inr (hj ▸ hnot)
    next => exact .inl hl

theorem ServiceSteps.keeps {P : ServiceTable → Prop} (hP : ∀ t u, ServiceStep t u → P t → P u) {t u : ServiceTable}
    (h : ServiceSteps t u) (ht : P t) : P u := by
  induction h with
  | refl => exact ht
  | tail _ hstep ih => exact hP _ _ hstep ih

theorem stackRight_reset : ServiceTable.reset.stackRight := by
  refine ⟨fun h => ?_, List.nodup_nil, Nat.zero_le _, List.Pairwise.nil⟩
  rw [ServiceTable.entry_reset]
  simp [ServiceTable.reset, Entry.onStack]

/-- Settles O58: every transition of the Service Table keeps the stack, and an installed entry goes on no stack. -/
theorem stackStaysNested : Obligations.StackStaysNested := by
  intro s t hc hs h
  rw [stackRight_iff] at hs ⊢
  exact step_keeps_tables (P := fun s => s.svt.stackRight) (claim := True) (fun s t hk hs => hk.svt ▸ hs)
    (fun s t ht _ => ht.svt ▸ stackRight_reset) (fun _ _ _ _ => id)
    (fun s t _ h hs => h.svt.keeps (fun _ _ h => h.keeps_stack) hs)
    (fun s h o hfree hs => hs.installed (hfree trivial).1) (fun _ => hc) hs h

/-! Arrival positions (R109) -/

/-- Entry e is PENDING at place p in arrival order. -/
def Entry.arrivedAt (e : Entry) (p : Nat) : Prop := ∃ o, e = .occupied o (.pending p)

/-- The arrival positions of the n PENDING entries are 0 to n - 1, each used once (R109). -/
structure ServiceTable.arrivalsRight (t : ServiceTable) : Prop where
  bounded : ∀ h p, (t.entry h).arrivedAt p → p < t.pendingCount
  once : ∀ h j p, (t.entry h).arrivedAt p → (t.entry j).arrivedAt p → h = j

theorem arrivalsRight_iff (s : State) : ArrivalsRight s ↔ s.svt.arrivalsRight :=
  ⟨fun h => ⟨fun j p ⟨o, ho⟩ => h.bounded j o p ho, fun i j p ⟨o, ho⟩ ⟨o', ho'⟩ => h.once i j o o' p ho ho'⟩,
    fun h => ⟨fun j o p ho => h.bounded j p ⟨o, ho⟩, fun i j o o' p ho ho' => h.once i j p ⟨o, ho⟩ ⟨o', ho'⟩⟩⟩

/-- Two counts over the handles that differ at one handle. -/
theorem countP_allHandles {p q : Handle → Bool} {h : Handle} (hp : p h = true) (hq : q h = false)
    (hj : ∀ j, j ≠ h → p j = q j) : allHandles.countP p = allHandles.countP q + 1 := by
  obtain ⟨a, b, hab⟩ := List.append_of_mem (List.mem_finRange h)
  have hnd : (a ++ h :: b).Nodup := hab ▸ List.nodup_finRange 24
  rw [List.nodup_append] at hnd
  obtain ⟨-, hnb, hne⟩ := hnd
  have ha : a.countP p = a.countP q :=
    List.countP_congr fun j hm => by rw [hj j fun hjh => hne j hm h (List.mem_cons_self ..) hjh]
  have hb : b.countP p = b.countP q :=
    List.countP_congr fun j hm => by rw [hj j fun hjh => (List.nodup_cons.mp hnb).1 (hjh ▸ hm)]
  rw [allHandles, hab, List.countP_append, List.countP_append, List.countP_cons, List.countP_cons, ha, hb, hp, hq]
  simp only [if_true, Bool.false_eq_true, if_false]
  omega

theorem Entry.moveUp_isPending (p : Nat) (e : Entry) : (Entry.moveUp p e).isPending = e.isPending := by
  rcases e with _ | ⟨o, ph⟩
  · rfl
  · cases ph <;> rfl

theorem Entry.isPending_iff (e : Entry) : e.isPending = true ↔ ∃ p, e.arrivedAt p := by
  unfold Entry.arrivedAt
  rcases e with _ | ⟨o, ph⟩
  · simp [Entry.isPending]
  · cases ph <;> simp [Entry.isPending]

theorem Entry.isPending_eq_false {e : Entry} (h : ∀ p, ¬ e.arrivedAt p) : e.isPending = false :=
  Bool.eq_false_iff.mpr fun hp => by
    obtain ⟨p, hp⟩ := (Entry.isPending_iff e).mp hp
    exact h p hp

/-- A PENDING entry that moves up stands one place earlier if it arrived after the one that leaves. -/
theorem Entry.arrivedAt_moveUp {left q : Nat} {e : Entry} (h : (Entry.moveUp left e).arrivedAt q) :
    ∃ r, e.arrivedAt r ∧ q = if left < r then r - 1 else r := by
  obtain ⟨o, h⟩ := h
  rcases e with _ | ⟨l, ph⟩
  · cases h
  · cases ph with
    | pending r =>
      cases h
      exact ⟨r, ⟨_, rfl⟩, rfl⟩
    | active w => cases h
    | detached => cases h
    | closing c => cases h

/-- Where no entry joins or leaves PENDING or moves, the positions stand. -/
theorem ServiceTable.arrivalsRight.congr {t u : ServiceTable} (ht : t.arrivalsRight)
    (h : ∀ j p, (u.entry j).arrivedAt p ↔ (t.entry j).arrivedAt p) : u.arrivalsRight := by
  have hcount : u.pendingCount = t.pendingCount :=
    List.countP_congr fun j _ => by simp only [Entry.isPending_iff, h]
  exact ⟨fun j p hj => hcount ▸ ht.bounded j p ((h j p).mp hj),
    fun i j p hi hj => ht.once i j p ((h i p).mp hi) ((h j p).mp hj)⟩

theorem ServiceTable.arrivalsRight.changeEntry {t : ServiceTable} (ht : t.arrivalsRight) {h : Handle} {e : Entry}
    (he : ∀ p, ¬ e.arrivedAt p) : (t.changeEntry h e).arrivalsRight := by
  by_cases hp : ∃ p, (t.entry h).arrivedAt p
  · obtain ⟨p, hp⟩ := hp
    have hentry (j : Handle) : (t.changeEntry h e).entry j = if j = h then e else Entry.moveUp p (t.entry j) := by
      obtain ⟨o, hp⟩ := hp
      rw [ServiceTable.entry_changeEntry, hp]
    have hcount : t.pendingCount = (t.changeEntry h e).pendingCount + 1 := by
      refine countP_allHandles (h := h) ((Entry.isPending_iff _).mpr ⟨p, hp⟩) ?_ fun j hj => ?_
      · rw [hentry, if_pos rfl]
        exact Entry.isPending_eq_false he
      · rw [hentry, if_neg hj, Entry.moveUp_isPending]
    have hplace {j : Handle} {q : Nat} (hq : ((t.changeEntry h e).entry j).arrivedAt q) :
        ∃ r, (t.entry j).arrivedAt r ∧ r ≠ p ∧ q = if p < r then r - 1 else r := by
      rw [hentry] at hq
      split at hq
      next => exact absurd hq (he q)
      next hj =>
        obtain ⟨r, hr, rfl⟩ := Entry.arrivedAt_moveUp hq
        exact ⟨r, hr, fun hrp => hj (ht.once j h p (hrp ▸ hr) hp), rfl⟩
    have hlt := ht.bounded h p hp
    refine ⟨fun j q hq => ?_, fun i j q hi hj => ?_⟩
    · obtain ⟨r, hr, hne, rfl⟩ := hplace hq
      have := ht.bounded j r hr
      split <;> omega
    · obtain ⟨r, hr, hne, hq⟩ := hplace hi
      obtain ⟨r', hr', hne', hq'⟩ := hplace hj
      have hrr : r = r' := by
        split at hq <;> split at hq' <;> omega
      exact ht.once i j r hr (hrr ▸ hr')
  · refine ht.congr fun j q => ?_
    have hentry : (t.changeEntry h e).entry j = if j = h then e else t.entry j := by
      rw [ServiceTable.entry_changeEntry]
      split
      · rfl
      · split
        next p heq => exact absurd ⟨p, _, heq⟩ hp
        next => rfl
    rw [hentry]
    split
    next hj => exact ⟨fun hq => absurd hq (he q), fun hq => absurd ⟨q, hj ▸ hq⟩ hp⟩
    next => exact Iff.rfl

theorem Entry.mayBecome.not_arrived {a e : Entry} (h : a.mayBecome e) (p : Nat) : ¬ e.arrivedAt p := by
  rintro ⟨o, rfl⟩
  obtain h | ⟨l, q, q', -, h, hq⟩ := h
  · cases h
  · cases h
    exact hq p rfl

theorem ServiceStep.keeps_arrivals {t u : ServiceTable} (h : ServiceStep t u) (ht : t.arrivalsRight) :
    u.arrivalsRight := by
  cases h with
  | threshold | unstacks => exact ht.congr fun _ _ => Iff.rfl
  | changes he => exact ht.changeEntry he.not_arrived
  | @completes h e he hon =>
    refine ht.congr fun j p => ?_
    rw [ServiceTable.entry_completed]
    split
    next hj =>
      refine ⟨fun hp => absurd hp (he.not_arrived p), fun ⟨o, hp⟩ => ?_⟩
      rw [← hj, hp] at hon
      cases hon
    next => exact Iff.rfl
  | @activates h o p =>
    exact (ht.changeEntry (h := h) (e := .occupied o (.active false)) (by simp [Entry.arrivedAt])).congr
      fun _ _ => Iff.rfl

theorem ServiceTable.arrivalsRight.installed {t : ServiceTable} (ht : t.arrivalsRight) {h : Handle} {o : HeldOffer}
    (hfree : t.entry h = .free) : (t.installed h o).arrivalsRight := by
  have hcount : (t.installed h o).pendingCount = t.pendingCount + 1 := by
    refine countP_allHandles (h := h) ?_ (by rw [hfree]; rfl) fun j hj => ?_
    · rw [ServiceTable.entry_installed, if_pos rfl]
      rfl
    · rw [ServiceTable.entry_installed, if_neg hj]
  have hplace {j : Handle} {q : Nat} (hq : ((t.installed h o).entry j).arrivedAt q) :
      j = h ∧ q = t.pendingCount ∨ (t.entry j).arrivedAt q ∧ q < t.pendingCount := by
    rw [ServiceTable.entry_installed] at hq
    split at hq
    next hj =>
      obtain ⟨l, hl⟩ := hq
      cases hl
      exact .inl ⟨hj, rfl⟩
    next => exact .inr ⟨hq, ht.bounded j q hq⟩
  refine ⟨fun j q hq => ?_, fun i j q hi hj => ?_⟩
  · rw [hcount]
    obtain ⟨-, rfl⟩ | ⟨-, hq⟩ := hplace hq <;> omega
  · obtain ⟨hi, hqi⟩ | ⟨hi, hqi⟩ := hplace hi
    · obtain ⟨hj, -⟩ | ⟨-, hqj⟩ := hplace hj
      · rw [hi, hj]
      · omega
    · obtain ⟨-, hqj⟩ | ⟨hj, -⟩ := hplace hj
      · omega
      · exact ht.once i j q hi hj

theorem arrivalsRight_reset : ServiceTable.reset.arrivalsRight := by
  have hnone (j : Handle) (p : Nat) : ¬ (ServiceTable.reset.entry j).arrivedAt p := by
    rw [ServiceTable.entry_reset]
    simp [Entry.arrivedAt]
  exact ⟨fun j p hj => absurd hj (hnone j p), fun i j p hi => absurd hi (hnone i p)⟩

/-- Settles O59: every transition of the Service Table keeps the arrival positions dense, and an installed entry takes
the next one. -/
theorem arrivalsStayDense : Obligations.ArrivalsStayDense := by
  intro s t hc hs h
  rw [arrivalsRight_iff] at hs ⊢
  exact step_keeps_tables (P := fun s => s.svt.arrivalsRight) (claim := True) (fun s t hk hs => hk.svt ▸ hs)
    (fun s t ht _ => ht.svt ▸ arrivalsRight_reset) (fun _ _ _ _ => id)
    (fun s t _ h hs => h.svt.keeps (fun _ _ h => h.keeps_arrivals) hs)
    (fun s h o hfree hs => hs.installed (hfree trivial).1) (fun _ => hc) hs h

end Sys2Proof.Machine
end

section
/-! The Notice List over whole runs: it holds one notice for each CLOSING entry and each withdrawal that has not
ended. -/
namespace Sys2Proof.Machine

/-! What a Notice List owes -/

/-- A notice without its attempts. -/
def Notice.unsent (n : Notice) : Notice := { n with attempts := 0, holdOff := none }

/-- The notice list `l` holds for each reference the notice owed for it, and no other. -/
structure Owes (owed : NoticeRef → Option Notice) (l : List Notice) : Prop where
  once : (l.map Notice.ref).Nodup
  sound : ∀ n ∈ l, owed n.ref = some n.unsent
  complete : ∀ r, (owed r).isSome = true → ∃ n ∈ l, n.ref = r

theorem Owes.congr {owed owed' : NoticeRef → Option Notice} {l : List Notice} (h : Owes owed l)
    (heq : ∀ r, owed' r = owed r) : Owes owed' l := by
  rwa [funext heq]

theorem Owes.joins {owed owed' : NoticeRef → Option Notice} {l : List Notice} (h : Owes owed l) {n : Notice}
    (hn : owed n.ref = none) (heq : ∀ r, owed' r = if r = n.ref then some n.unsent else owed r) :
    Owes owed' (l ++ [n]) := by
  have hnot : ∀ m ∈ l, m.ref ≠ n.ref := fun m hm hr => by
    have := h.sound m hm
    rw [hr, hn] at this
    cases this
  refine ⟨?_, fun m hm => ?_, fun r hr => ?_⟩
  · rw [List.map_append, List.nodup_append]
    refine ⟨h.once, by simp, fun a ha b hb => ?_⟩
    obtain ⟨m, hm, rfl⟩ := List.mem_map.mp ha
    rw [List.map_singleton, List.mem_singleton] at hb
    exact hb ▸ hnot m hm
  · rw [heq]
    obtain hm | hm := List.mem_append.mp hm
    · rw [if_neg (hnot m hm)]
      exact h.sound m hm
    · rw [List.mem_singleton.mp hm, if_pos rfl]
  · rw [heq] at hr
    split at hr
    next hr' => exact ⟨n, by simp, hr'.symm⟩
    next =>
      obtain ⟨m, hm, hmr⟩ := h.complete r hr
      exact ⟨m, List.mem_append_left _ hm, hmr⟩

theorem Owes.filters {owed owed' : NoticeRef → Option Notice} {l : List Notice} (h : Owes owed l)
    {p : Notice → Bool} (hkeep : ∀ n ∈ l, p n = true → owed' n.ref = owed n.ref)
    (hdrop : ∀ n ∈ l, p n = false → owed' n.ref = none)
    (hsome : ∀ r, (owed' r).isSome = true → (owed r).isSome = true) : Owes owed' (l.filter p) := by
  refine ⟨h.once.sublist (List.filter_sublist.map _), fun n hn => ?_, fun r hr => ?_⟩
  · obtain ⟨hn, hp⟩ := List.mem_filter.mp hn
    rw [hkeep n hn hp]
    exact h.sound n hn
  · obtain ⟨n, hn, rfl⟩ := h.complete r (hsome r hr)
    refine ⟨n, List.mem_filter.mpr ⟨hn, ?_⟩, rfl⟩
    by_contra hp
    rw [hdrop n hn (Bool.eq_false_iff.mpr hp)] at hr
    cases hr

/-- The notice of r leaves the list, and nothing is owed for r any more. -/
theorem Owes.leaves {owed owed' : NoticeRef → Option Notice} {l : List Notice} (h : Owes owed l) {r : NoticeRef}
    (heq : ∀ j, owed' j = if j = r then none else owed j) : Owes owed' (l.filter fun n => n.ref != r) := by
  refine h.filters (fun n _ hp => ?_) (fun n _ hp => ?_) fun j hj => ?_
  · rw [heq, if_neg (by simpa using hp)]
  · rw [heq, if_pos (by simpa using hp)]
  · rw [heq] at hj
    split at hj
    · cases hj
    · exact hj

theorem Owes.maps {owed : NoticeRef → Option Notice} {l : List Notice} (h : Owes owed l) {f : Notice → Notice}
    (hf : ∀ n, (f n).unsent = n.unsent) : Owes owed (l.map f) := by
  have href (n : Notice) : (f n).ref = n.ref := by
    have hbody : (f n).unsent.body = n.unsent.body := by rw [hf n]
    have hbody : (f n).body = n.body := hbody
    unfold Notice.ref
    rw [hbody]
  refine ⟨?_, fun n hn => ?_, fun r hr => ?_⟩
  · rw [List.map_map, show Notice.ref ∘ f = Notice.ref from funext href]
    exact h.once
  · obtain ⟨m, hm, rfl⟩ := List.mem_map.mp hn
    rw [href, hf]
    exact h.sound m hm
  · obtain ⟨m, hm, rfl⟩ := h.complete r hr
    exact ⟨f m, List.mem_map_of_mem hm, href m⟩

/-! What the station owes -/

/-- The notice of an entry: a DONE where it is CLOSING (R121). -/
def Entry.owed (h : Handle) : Entry → Option Notice
  | .occupied o (.closing c) => some (doneNotice h o c)
  | _ => none

/-- The notice of a source: a WITHDRAW where it is WITHDRAWING and no notice of it has ended (R75). -/
def SourceRecord.owed (k : SourceIndex) (cls : ServiceClass) (r : SourceRecord) : Option Notice :=
  match r.state with
  | .withdrawing x .no => some
      { body := .withdraw k, addressee := x, source := k, generation := r.generation, cls := cls, attempts := 0,
        holdOff := none }
  | _ => none

/-- The notice that the station owes for a reference. -/
def State.owed (s : State) : NoticeRef → Option Notice
  | .done h => (s.svt.entry h).owed h
  | .withdraw k => (s.source k).owed k (s.route k).cls

theorem Entry.owed_eq_some {h : Handle} {e : Entry} {n : Notice} :
    e.owed h = some n ↔ ∃ o c, e = .occupied o (.closing c) ∧ n = doneNotice h o c := by
  unfold Entry.owed
  split
  next o c => simp [eq_comm]
  next hne => simp only [reduceCtorEq, false_iff]; rintro ⟨o, c, he, -⟩; exact hne o c he

theorem State.owed_withdraw_eq_some {s : State} {k : SourceIndex} {n : Notice} :
    s.owed (.withdraw k) = some n ↔ ∃ x, (s.source k).state = .withdrawing x .no ∧ n = s.withdrawNotice k x := by
  simp only [State.owed, SourceRecord.owed]
  split
  next x hx => simp [hx, eq_comm, State.withdrawNotice]
  next hne => simp only [reduceCtorEq, false_iff]; rintro ⟨x, he, -⟩; exact hne x he

/-- The list holds what the station owes, for tracked entries alone; in RESET and CONFIG it is empty. -/
structure NoticesOwed (s : State) : Prop where
  owes : Owes s.owed s.nl
  tracked : ∀ h o c, s.svt.entry h = .occupied o (.closing c) → o.tracked = true
  emptyBeforeJoin : s.beforeJoin → s.nl = []

theorem Notice.ref_eq_done {n : Notice} {h : Handle} : n.ref = .done h ↔ ∃ c, n.body = .done h c := by
  unfold Notice.ref
  cases n.body <;> simp

theorem Notice.ref_eq_withdraw {n : Notice} {k : SourceIndex} : n.ref = .withdraw k ↔ n.body = .withdraw k := by
  unfold Notice.ref
  cases n.body <;> simp

theorem noticesMatch_iff (s : State) : NoticesMatch s ↔ NoticesOwed s := by
  constructor
  · intro h
    refine ⟨⟨h.once, fun n hn => ?_, fun r hr => ?_⟩, fun i o c he => ?_, h.emptyBeforeJoin⟩
    · cases hr : n.ref with
      | done i =>
        obtain ⟨c, hbody⟩ := Notice.ref_eq_done.mp hr
        obtain ⟨o, he, -, ha, hs, hg, hc⟩ := h.doneFields n hn i c hbody
        refine Entry.owed_eq_some.mpr ⟨o, c, he, ?_⟩
        simp only [Notice.unsent, doneNotice, hbody, ha, hs, hg, hc]
      | withdraw k =>
        have hbody := Notice.ref_eq_withdraw.mp hr
        obtain ⟨hst, hs, hg, hc⟩ := h.withdrawFields n hn k hbody
        refine State.owed_withdraw_eq_some.mpr ⟨n.addressee, hst, ?_⟩
        simp only [Notice.unsent, State.withdrawNotice, hbody, hs, hg, hc]
    · obtain ⟨n, hn⟩ := Option.isSome_iff_exists.mp hr
      cases r with
      | done i =>
        obtain ⟨o, c, he, -⟩ := Entry.owed_eq_some.mp hn
        exact (h.done i).mp ⟨o, c, he⟩
      | withdraw k =>
        obtain ⟨x, hx, -⟩ := State.owed_withdraw_eq_some.mp hn
        exact (h.withdraw k).mp ⟨x, hx⟩
    · obtain ⟨n, hn, hr⟩ := (h.done i).mp ⟨o, c, he⟩
      obtain ⟨c', hbody⟩ := Notice.ref_eq_done.mp hr
      obtain ⟨o', he', ht, -⟩ := h.doneFields n hn i c' hbody
      cases he.symm.trans he'
      exact ht
  · intro h
    have hdone {n : Notice} (hn : n ∈ s.nl) {i : Handle} (hr : n.ref = .done i) :
        ∃ o c, s.svt.entry i = .occupied o (.closing c) ∧ n.unsent = doneNotice i o c :=
      Entry.owed_eq_some.mp ((congrArg s.owed hr).symm.trans (h.owes.sound n hn))
    have hwithdraw {n : Notice} (hn : n ∈ s.nl) {k : SourceIndex} (hr : n.ref = .withdraw k) :
        ∃ x, (s.source k).state = .withdrawing x .no ∧ n.unsent = s.withdrawNotice k x :=
      State.owed_withdraw_eq_some.mp ((congrArg s.owed hr).symm.trans (h.owes.sound n hn))
    refine ⟨h.owes.once, fun i => ⟨fun ⟨o, c, he⟩ => ?_, fun ⟨n, hn, hr⟩ => ?_⟩,
      fun k => ⟨fun ⟨x, hx⟩ => ?_, fun ⟨n, hn, hr⟩ => ?_⟩, fun n hn i c hbody => ?_, fun n hn k hbody => ?_,
      h.emptyBeforeJoin⟩
    · exact h.owes.complete (.done i) (Option.isSome_iff_exists.mpr ⟨_, Entry.owed_eq_some.mpr ⟨o, c, he, rfl⟩⟩)
    · obtain ⟨o, c, he, -⟩ := hdone hn hr
      exact ⟨o, c, he⟩
    · exact h.owes.complete (.withdraw k)
        (Option.isSome_iff_exists.mpr ⟨_, State.owed_withdraw_eq_some.mpr ⟨x, hx, rfl⟩⟩)
    · obtain ⟨x, hx, -⟩ := hwithdraw hn hr
      exact ⟨x, hx⟩
    · obtain ⟨o, c', he, hu⟩ := hdone hn (Notice.ref_eq_done.mpr ⟨c, hbody⟩)
      obtain ⟨hb, ha, hs, hg, hc, -⟩ := Notice.mk.inj hu
      cases hbody.symm.trans hb
      exact ⟨o, he, h.tracked i o c he, ha, hs, hg, hc⟩
    · obtain ⟨x, hx, hu⟩ := hwithdraw hn (Notice.ref_eq_withdraw.mpr hbody)
      obtain ⟨-, ha, hs, hg, hc, -⟩ := Notice.mk.inj hu
      exact ⟨ha.symm ▸ hx, hs, hg, hc⟩

/-! What a transition makes of what the station owes -/

theorem State.owed_put {s t : State} {k : SourceIndex} {r : SourceRecord} {l : List SourceIndex}
    (hst : t.st = (s.putSource k r l).st) (hsvt : t.svt = s.svt) (hcs : t.cs = s.cs) (j : NoticeRef) :
    t.owed j = if j = .withdraw k then r.owed k (s.route k).cls else s.owed j := by
  cases j with
  | done h => simp only [State.owed, hsvt, reduceCtorEq, if_false]
  | withdraw i =>
    simp only [State.owed, State.source_of_st hst, State.route, hcs, NoticeRef.withdraw.injEq]
    split
    next hi => rw [hi]
    next => rfl

theorem State.owed_entry {s t : State} {h : Handle} (hst : t.st = s.st) (hcs : t.cs = s.cs)
    (he : ∀ j, j ≠ h → (t.svt.entry j).owed j = (s.svt.entry j).owed j) (j : NoticeRef) :
    t.owed j = if j = .done h then (t.svt.entry h).owed h else s.owed j := by
  cases j with
  | done i =>
    simp only [State.owed, NoticeRef.done.injEq]
    split
    next hi => rw [hi]
    next hi => exact he i hi
  | withdraw k => simp only [State.owed, State.source, hst, State.route, hcs, reduceCtorEq, if_false]

theorem ServiceTable.sameClosing.owed {t u : ServiceTable} {except : Handle → Prop} (h : t.sameClosing u except)
    {j : Handle} (hj : ¬ except j) : (u.entry j).owed j = (t.entry j).owed j := by
  refine Option.ext fun n => ?_
  simp only [Entry.owed_eq_some, h j hj]

theorem SourceRecord.owed_eq_none {k : SourceIndex} {cls : ServiceClass} {r : SourceRecord}
    (h : ∀ x, r.state ≠ .withdrawing x .no) : r.owed k cls = none := by
  unfold SourceRecord.owed
  split
  next x hx => exact absurd hx (h x)
  next => rfl

theorem SourceRecord.owed_congr {k : SourceIndex} {cls : ServiceClass} {r r' : SourceRecord} (hs : r'.state = r.state)
    (hg : r'.generation = r.generation) : r'.owed k cls = r.owed k cls := by
  unfold SourceRecord.owed
  rw [hs, hg]

/-- A record that changes to another that owes the same leaves the list as it is. -/
theorem NoticesOwed.put {s t : State} (hs : NoticesOwed s) {k : SourceIndex} {r : SourceRecord} {l : List SourceIndex}
    (hst : t.st = (s.putSource k r l).st) (hkept : t.svt = s.svt ∧ t.cs = s.cs ∧ t.nl = s.nl) (hb : ¬ t.beforeJoin)
    (hr : r.owed k (s.route k).cls = (s.source k).owed k (s.route k).cls) : NoticesOwed t := by
  obtain ⟨hsvt, hcs, hnl⟩ := hkept
  refine ⟨?_, hsvt ▸ hs.tracked, fun h => absurd h hb⟩
  rw [hnl]
  refine hs.owes.congr fun j => ?_
  rw [State.owed_put hst hsvt hcs]
  split
  next hj => rw [hj, hr]; rfl
  next => rfl

/-- A record in a state that owes nothing gives way to another such. -/
theorem NoticesOwed.put_none {s t : State} (hs : NoticesOwed s) {k : SourceIndex} {r : SourceRecord}
    {l : List SourceIndex} (hst : t.st = (s.putSource k r l).st) (hkept : t.svt = s.svt ∧ t.cs = s.cs ∧ t.nl = s.nl)
    (hb : ¬ t.beforeJoin) (h : ∀ x, (s.source k).state ≠ .withdrawing x .no)
    (h' : ∀ x, r.state ≠ .withdrawing x .no) : NoticesOwed t :=
  hs.put hst hkept hb (by rw [SourceRecord.owed_eq_none h, SourceRecord.owed_eq_none h'])

/-- A notice that ends with its owner's record. -/
theorem NoticesOwed.ends {s t : State} (hs : NoticesOwed s) {r : NoticeRef} (hsvt : ∀ h o c,
      t.svt.entry h = .occupied o (.closing c) → s.svt.entry h = .occupied o (.closing c))
    (hnl : t.nl = s.nl.filter fun n => n.ref != r) (howed : ∀ j, t.owed j = if j = r then none else s.owed j)
    (hb : ¬ t.beforeJoin) : NoticesOwed t :=
  ⟨hnl ▸ hs.owes.leaves howed, fun h o c he => hs.tracked h o c (hsvt h o c he), fun h => absurd h hb⟩

/-! A HELLO -/

theorem Entry.moveUp_owed (p : Nat) (h : Handle) (e : Entry) : (Entry.moveUp p e).owed h = e.owed h := by
  rcases e with _ | ⟨o, ph⟩
  · rfl
  · cases ph <;> rfl

theorem ServiceTable.owed_changeEntry (t : ServiceTable) (h j : Handle) (e : Entry) :
    ((t.changeEntry h e).entry j).owed j = if j = h then e.owed j else (t.entry j).owed j := by
  rw [ServiceTable.entry_changeEntry]
  split
  · rfl
  · split
    · exact Entry.moveUp_owed _ _ _
    · rfl

/-- A HELLO from x takes the DONE to x from the entry that it reaches (R127). -/
theorem ServiceTable.owed_helloReleases (t : ServiceTable) (x : StationId) (h j : Handle) :
    ((t.helloReleases x h).entry j).owed j =
      if j = h then ((t.entry j).owed j).filter fun n => n.addressee != x else (t.entry j).owed j := by
  by_cases hj : j = h
  · subst hj
    rw [if_pos rfl]
    unfold ServiceTable.helloReleases
    split
    next o p he =>
      split
      next hx =>
        cases p with
        | pending n => rw [ServiceTable.owed_changeEntry, he]; simp [Entry.owed]
        | active w => rw [ServiceTable.owed_changeEntry, he]; simp [Entry.owed]
        | detached => rw [he]; simp [Entry.owed]
        | closing c => rw [ServiceTable.owed_changeEntry, he]; simp [Entry.owed, doneNotice, hx, Option.filter]
      next hx =>
        rw [he]
        cases p <;> simp [Entry.owed, doneNotice, hx, Option.filter]
    next he => rw [he]; rfl
  · rw [if_neg hj]
    unfold ServiceTable.helloReleases
    split
    next o p he =>
      split
      · cases p with
        | detached => rfl
        | pending n => rw [ServiceTable.owed_changeEntry, if_neg hj]
        | active w => rw [ServiceTable.owed_changeEntry, if_neg hj]
        | closing c => rw [ServiceTable.owed_changeEntry, if_neg hj]
      · rfl
    next => rfl

theorem ServiceTable.owed_helloReleases_foldl (x : StationId) (hs : List Handle) (t : ServiceTable) (j : Handle) :
    ((hs.foldl (ServiceTable.helloReleases x) t).entry j).owed j =
      if j ∈ hs then ((t.entry j).owed j).filter fun n => n.addressee != x else (t.entry j).owed j := by
  induction hs generalizing t with
  | nil => rfl
  | cons h hs ih =>
    rw [List.foldl_cons, ih, ServiceTable.owed_helloReleases]
    by_cases hj : j = h <;> by_cases hm : j ∈ hs <;> simp [hj, hm, Option.filter_filter]

/-- Where a notice of r is on the list, r's owner is still in the state that owes it. -/
theorem NoticesOwed.owed_of_notice? {s : State} (hs : NoticesOwed s) {r : NoticeRef} {n : Notice}
    (hn : s.notice? r = some n) : n ∈ s.nl ∧ n.ref = r ∧ s.owed r = some n.unsent := by
  obtain ⟨hm, hr⟩ := State.mem_of_notice? hn
  exact ⟨hm, hr, hr ▸ hs.owes.sound n hm⟩

theorem NoticesOwed.withdraws {s t : State} (hs : NoticesOwed s) {k : SourceIndex} {x : StationId} {r : SourceRecord}
    (hst : t.st = (s.putSource k r s.st.ready).st)
    (hkept : t.svt = s.svt ∧ t.cs = s.cs ∧ t.nl = s.nl ++ [s.withdrawNotice k x]) (hb : ¬ t.beforeJoin)
    (h : ∀ x, (s.source k).state ≠ .withdrawing x .no)
    (hr : r.state = .withdrawing x .no ∧ r.generation = (s.source k).generation) : NoticesOwed t := by
  obtain ⟨hsvt, hcs, hnl⟩ := hkept
  refine ⟨?_, hsvt ▸ hs.tracked, fun h => absurd h hb⟩
  rw [hnl]
  refine hs.owes.joins (SourceRecord.owed_eq_none h) fun j => (State.owed_put hst hsvt hcs j).trans ?_
  refine if_congr Iff.rfl ?_ rfl
  simp only [SourceRecord.owed, hr.1, hr.2]
  rfl

theorem NoticesOwed.requeues {s : State} (hs : NoticesOwed s) {r : NoticeRef} {n : Notice}
    (hn : s.notice? r = some n) (attempts : Nat) (holdOff : Option Nat) (hb : ¬ s.beforeJoin) :
    NoticesOwed ((s.removeNotice r).queueNotice { n with attempts := attempts, holdOff := holdOff }) := by
  obtain ⟨-, rfl, howed⟩ := hs.owed_of_notice? hn
  refine ⟨?_, hs.tracked, fun h => absurd h hb⟩
  refine (hs.owes.leaves (r := n.ref) fun _ => rfl).joins (if_pos rfl) fun j => ?_
  show s.owed j = if j = n.ref then some n.unsent else if j = n.ref then none else s.owed j
  split
  next hj => rw [hj, howed]
  next => rfl

theorem NoticesOwed.closes {s : State} (hs : NoticesOwed s) {h : Handle} {o : HeldOffer} {c : DoneOutcome}
    {t : ServiceTable} (hnot : ¬ (s.svt.entry h).isClosing) (ht : o.tracked = true)
    (he : t.entry h = .occupied o (.closing c)) (hc : s.svt.sameClosing t (· = h)) (hb : ¬ s.beforeJoin) :
    NoticesOwed (({ s with svt := t } : State).queueNotice (doneNotice h o c)) := by
  refine ⟨?_, fun j l d hj => ?_, fun h => absurd h hb⟩
  · refine hs.owes.joins (Option.eq_none_iff_forall_ne_some.mpr fun n hn => ?_) fun j => ?_
    · obtain ⟨l, d, hl, -⟩ := Entry.owed_eq_some.mp hn
      exact hnot ⟨l, d, hl⟩
    · refine (State.owed_entry (s := s) (t := ({ s with svt := t } : State).queueNotice (doneNotice h o c)) (h := h) rfl rfl
        (fun j hj => hc.owed hj) j).trans (if_congr Iff.rfl ?_ rfl)
      show (t.entry h).owed h = _
      rw [he]
      rfl
  · by_cases hjh : j = h
    · subst hjh
      cases he.symm.trans hj
      exact ht
    · exact hs.tracked j l d ((hc j hjh l d).mp hj)

theorem NoticesOwed.hello {s : State} (hs : NoticesOwed s) {x : StationId}
    (hw : ∀ k w, (s.source k).state ≠ .withdrawing x w) (hb : ¬ s.beforeJoin) :
    NoticesOwed { s with
      svt := allHandles.foldl (ServiceTable.helloReleases x) s.svt,
      nl := s.nl.filter fun n => n.addressee != x } := by
  have hentry (h : Handle) := ServiceTable.owed_helloReleases_foldl x allHandles s.svt h
  have hoffer := ServiceTable.helloReleases_foldl_steps x allHandles s.svt
  simp only [show ∀ h, h ∈ allHandles from List.mem_finRange, if_true] at hentry
  generalize allHandles.foldl (ServiceTable.helloReleases x) s.svt = table at hentry hoffer ⊢
  refine ⟨hs.owes.filters (fun n hn hp => ?_) (fun n hn hp => ?_) fun r hr => ?_, fun h o c he => ?_,
    fun h => absurd h hb⟩
  · have howed := hs.owes.sound n hn
    cases hr : n.ref with
    | done h =>
      rw [hr] at howed
      show (table.entry h).owed h = (s.svt.entry h).owed h
      have howed : (s.svt.entry h).owed h = some n.unsent := howed
      have hp : (n.unsent.addressee != x) = true := hp
      rw [hentry, howed, Option.filter_some, if_pos hp]
    | withdraw k => rfl
  · have howed := hs.owes.sound n hn
    have hp : (n.unsent.addressee != x) = false := hp
    cases hr : n.ref with
    | done h =>
      rw [hr] at howed
      show (table.entry h).owed h = none
      have howed : (s.svt.entry h).owed h = some n.unsent := howed
      rw [hentry, howed, Option.filter_some, hp]
      rfl
    | withdraw k =>
      rw [hr] at howed
      obtain ⟨y, hy, hn⟩ := State.owed_withdraw_eq_some.mp howed
      have hyx : n.unsent.addressee = y := by rw [hn]; rfl
      rw [hyx, bne_eq_false_iff_eq] at hp
      exact absurd (hp ▸ hy) (hw k .no)
  · cases r with
    | done h =>
      show ((s.svt.entry h).owed h).isSome = true
      have hr : ((table.entry h).owed h).isSome = true := hr
      rw [hentry] at hr
      obtain ⟨n, hn⟩ := Option.isSome_iff_exists.mp hr
      exact Option.isSome_iff_exists.mpr ⟨n, Option.eq_some_of_filter_eq_some hn⟩
    | withdraw k => exact hr
  · have he : table.entry h = .occupied o (.closing c) := he
    have howed := hentry h
    rw [he] at howed
    obtain ⟨o', c', he', -⟩ := Entry.owed_eq_some.mp (Option.eq_some_of_filter_eq_some howed.symm)
    have hsame := hoffer.offer (j := h) (o := o) (by rw [he]; rfl)
    rw [he'] at hsame
    cases hsame
    exact hs.tracked h o c' he'

/-- Every transition keeps the list owed. -/
theorem TableStep.keeps_notices {s t : State} (hbs : ¬ s.beforeJoin) (h : TableStep s t) (hs : NoticesOwed s) :
    NoticesOwed t := by
  have hb : ¬ t.beforeJoin := by
    unfold State.beforeJoin at hbs ⊢
    rwa [h.moved.sc]
  cases h with
  | marks k r hst hg => exact hs.put (l := s.st.ready) rfl ⟨rfl, rfl, rfl⟩ hb (SourceRecord.owed_congr hst hg)
  | readies k h =>
    rw [State.enterReady_eq] at hb ⊢
    refine hs.put_none rfl ⟨rfl, rfl, rfl⟩ hb (fun x => ?_) (by simp [State.newOffer])
    obtain ⟨h, -⟩ | ⟨⟨y, h⟩, -⟩ := h <;> simp [h]
  | idles k hi hw =>
    revert hb
    rw [State.enterIdle_eq]
    split
    · exact fun hb => hs.put_none rfl ⟨rfl, rfl, rfl⟩ hb (fun x => hw x .no) (by simp [State.newOffer])
    · exact fun hb => hs.put_none rfl ⟨rfl, rfl, rfl⟩ hb (fun x => hw x .no) (by simp [State.idleRecord])
  | offers k h => exact hs.put_none (l := s.readyLeft k) rfl ⟨rfl, rfl, rfl⟩ hb (by simp [h]) (by simp)
  | backsOff k retry h => exact hs.put_none (l := s.st.ready) rfl ⟨rfl, rfl, rfl⟩ hb (by simp [h]) (by simp)
  | fails k h => exact hs.put_none (l := s.st.ready) rfl ⟨rfl, rfl, rfl⟩ hb (by simp [h]) (by simp)
  | ticks k n h => exact hs.put_none (l := s.st.ready) rfl ⟨rfl, rfl, rfl⟩ hb (by simp [h]) (by simp)
  | expires k n h =>
    exact hs.put_none (l := s.readyJoined k s.st.ready) rfl ⟨rfl, rfl, rfl⟩ hb (by simp [h]) (by simp)
  | places k x f h => exact hs.put_none (l := s.st.ready) rfl ⟨rfl, rfl, rfl⟩ hb (by simp [h]) (by simp)
  | withdraws k x cancel h =>
    refine hs.withdraws rfl ⟨rfl, rfl, rfl⟩ hb (fun y => ?_) ⟨rfl, rfl⟩
    obtain ⟨z, h⟩ | h | ⟨h, -⟩ := h <;> simp [h]
  | releases k h =>
    refine hs.ends (r := .withdraw k) ?_ (State.enterIdle_nl _ k) ?_ hb
    · rw [(State.enterIdle_moved (s.removeNotice (.withdraw k)) k).1.svt]
      exact fun _ _ _ => id
    · intro j
      rw [State.enterIdle_removeNotice, State.enterIdle_eq]
      split
      · exact State.owed_put (s := s) (r := s.newOffer k false) (l := s.readyJoined k (s.readyLeft k)) rfl rfl rfl j
      · exact State.owed_put (s := s) (r := s.idleRecord k) (l := s.readyLeft k) rfl rfl rfl j
  | drops => exact ⟨hs.owes, hs.tracked, hs.emptyBeforeJoin⟩
  | endsWithdraw k w n hw hn =>
    obtain ⟨-, -, howed⟩ := hs.owed_of_notice? hn
    obtain ⟨x, hx, -⟩ := State.owed_withdraw_eq_some.mp howed
    have heq : (s.removeNotice (.withdraw k)).setWithdrawSent k w =
        (s.removeNotice (.withdraw k)).setSource k { s.source k with state := .withdrawing x w } := by
      simp only [State.setWithdrawSent, show (s.removeNotice (.withdraw k)).source k = s.source k from rfl, hx]
    rw [heq] at hb ⊢
    refine hs.ends (r := .withdraw k) (fun _ _ _ => id) rfl (fun j => ?_) hb
    refine (State.owed_put (s := s) (l := s.st.ready) rfl rfl rfl j).trans (if_congr Iff.rfl ?_ rfl)
    exact SourceRecord.owed_eq_none (by simp [hw])
  | endsDone h n hn =>
    obtain ⟨-, -, howed⟩ := hs.owed_of_notice? hn
    obtain ⟨o, c, he, -⟩ := Entry.owed_eq_some.mp howed
    have heq : (s.removeNotice (.done h)).freeClosing h =
        { s.removeNotice (.done h) with svt := s.svt.setEntry h .free } := by
      simp only [State.freeClosing, State.removeNotice_svt, he]
    rw [heq] at hb ⊢
    refine hs.ends (r := .done h) (fun j l d hj => ?_) rfl (fun j => ?_) hb
    · rw [show ({ s.removeNotice (.done h) with svt := s.svt.setEntry h .free } : State).svt = s.svt.setEntry h .free
        from rfl, ServiceTable.entry_setEntry] at hj
      split at hj
      · cases hj
      · exact hj
    · refine (State.owed_entry (s := s) (t := { s.removeNotice (.done h) with svt := s.svt.setEntry h .free }) (h := h)
        rfl rfl (fun j hj => ?_) j).trans (if_congr Iff.rfl ?_ rfl)
      · show ((s.svt.setEntry h .free).entry j).owed j = _
        rw [ServiceTable.entry_setEntry, if_neg hj]
      · show ((s.svt.setEntry h .free).entry h).owed h = _
        rw [ServiceTable.entry_setEntry, if_pos rfl]
        rfl
  | requeues r n hn => exact hs.requeues hn _ _ hbs
  | holdOffs f => exact ⟨hs.owes.maps fun _ => rfl, hs.tracked, fun h => absurd h hb⟩
  | serves t _ hc =>
    refine ⟨hs.owes.congr fun r => ?_, fun h o c he => hs.tracked h o c ((hc h id o c).mp he), fun h => absurd h hb⟩
    cases r with
    | done h => exact hc.owed id
    | withdraw k => rfl
  | closes h o c p t _ he hp ht he' hc =>
    refine hs.closes (fun ⟨l, d, hl⟩ => ?_) ht he' hc hbs
    cases he.symm.trans hl
    exact hp d rfl
  | hellos x hw => exact hs.hello hw hbs

theorem noticesOwed_empty {s : State} (hnl : s.nl = []) (he : ∀ h o c, s.svt.entry h ≠ .occupied o (.closing c))
    (hw : ∀ k x, (s.source k).state ≠ .withdrawing x .no) : NoticesOwed s := by
  refine ⟨?_, fun h o c h' => absurd h' (he h o c), fun _ => hnl⟩
  rw [hnl]
  refine ⟨by simp, by simp, fun r hr => ?_⟩
  obtain ⟨n, hn⟩ := Option.isSome_iff_exists.mp hr
  cases r with
  | done h =>
    obtain ⟨o, c, h', -⟩ := Entry.owed_eq_some.mp hn
    exact absurd h' (he h o c)
  | withdraw k =>
    obtain ⟨x, h', -⟩ := State.owed_withdraw_eq_some.mp hn
    exact absurd h' (hw k x)

/-- An empty list owes nothing. -/
theorem NoticesOwed.nothing {s : State} (hs : NoticesOwed s) (hnl : s.nl = []) :
    (∀ h o c, s.svt.entry h ≠ .occupied o (.closing c)) ∧ ∀ k x, (s.source k).state ≠ .withdrawing x .no := by
  have hnone (r : NoticeRef) (n : Notice) : s.owed r ≠ some n := fun hn => by
    obtain ⟨m, hm, -⟩ := hs.owes.complete r (by rw [hn]; rfl)
    rw [hnl] at hm
    cases hm
  exact ⟨fun h o c he => hnone (.done h) _ (Entry.owed_eq_some.mpr ⟨o, c, he, rfl⟩),
    fun k x hx => hnone (.withdraw k) _ (State.owed_withdraw_eq_some.mpr ⟨x, hx, rfl⟩)⟩

theorem NoticesOwed.of_kept {s t : State} (hs : NoticesOwed s) (h : s.tablesKept t) : NoticesOwed t := by
  refine ⟨?_, h.svt ▸ hs.tracked, fun hb => h.nl ▸ hs.emptyBeforeJoin (h.before hb).1⟩
  rw [h.nl]
  refine hs.owes.congr fun r => ?_
  cases r with
  | done i => simp only [State.owed, h.svt]
  | withdraw k => simp only [State.owed, State.source, h.st, State.route, h.cs]

theorem NoticesOwed.installed {s : State} (hs : NoticesOwed s) {h : Handle} {o : HeldOffer}
    (hfree : s.svt.entry h = .free) : NoticesOwed { s with svt := s.svt.installed h o } := by
  have hentry := s.svt.entry_installed h (o := o)
  refine ⟨hs.owes.congr fun r => ?_, fun j l c hj => ?_, hs.emptyBeforeJoin⟩
  · cases r with
    | withdraw k => rfl
    | done j =>
      show ((s.svt.installed h o).entry j).owed j = (s.svt.entry j).owed j
      rw [hentry]
      split
      next hj => rw [hj, hfree]; rfl
      next => rfl
  · have hj : (s.svt.installed h o).entry j = .occupied l (.closing c) := hj
    rw [hentry] at hj
    split at hj
    · cases hj
    · exact hs.tracked j l c hj

/-- Settles O60: that each owner's notice is on the list exactly where it is owed is kept by every transition. -/
theorem noticesStayMatched : Obligations.NoticesStayMatched := by
  intro s t hc hs h
  rw [noticesMatch_iff] at hs ⊢
  refine step_keeps_tables (P := NoticesOwed) (claim := True) (fun s t hk hs => hs.of_kept hk) (fun s t ht _ => ?_)
    (fun s cs hcfg _ hs => ?_) (fun s t hb h => h.keeps_notices hb)
    (fun s h o hfree hs => hs.installed (hfree trivial).1) (fun _ => hc) hs h
  · refine noticesOwed_empty ht.nl (fun h o c => ?_) fun k x => ?_
    · rw [ht.svt, ServiceTable.entry_reset]
      simp
    · rw [source_reset ht.st]
      simp [SourceRecord.reset]
  · have hnl := hs.emptyBeforeJoin (.inr hcfg)
    obtain ⟨he, hw⟩ := hs.nothing hnl
    exact noticesOwed_empty hnl he hw

end Sys2Proof.Machine
end

section
/-! The Claim Unit over whole runs: a reservation stands only for the offer decided on and for a FREE entry (R85 to
R91). -/
namespace Sys2Proof.Machine

/-! A good frame -/

/-- Where the samples end a good frame, this station sent it, or read it from the bus (R9, R11, R13, R16). -/
theorem State.spanEnd_good {s : State} {samples : List Bool} {f : Frame} (h : s.spanEnd samples = .good f) :
    samples ≠ [] ∧ ((s.pbe.role = .sender ∧ ∃ i, s.ts.inHand = some i ∧ i.frame = f) ∨
      (s.pbe.role = .receiver ∧ readFrame (s.pbe.current ++ samples) = some f)) := by
  have hlen := (State.takesPart_of_spanEnd h (by simp)).2
  unfold State.spanEnd at h
  split at h
  · split at h
    next i hrole hi =>
      unfold senderSpan at h
      split at h
      · cases h
      · split at h
        next hl =>
          split at h
          · cases h
            exact ⟨fun hn => by simp [hn] at hl, .inl ⟨hrole, i, hi, rfl⟩⟩
          · cases h
        next => cases h
    next hrole =>
      unfold receiverSpan at h
      dsimp only at h
      split at h
      · split at h <;> cases h
      · split at h
        next hl =>
          have hne : samples ≠ [] := fun hn => by
            rw [hn, List.append_nil, hlen] at hl
            unfold FrameKind.errAt at hl
            omega
          split at h
          · cases h
          · split at h
            · cases h
            · split at h
              · cases h
              · split at h
                next g hg =>
                  cases h
                  exact ⟨hne, .inr ⟨hrole, hg⟩⟩
                next => cases h
        next => cases h
    next => cases h
  · cases h

/-! What keeps the Claim Unit right -/

theorem claimRight_silent_of {s : State} (hrole : s.cu.role = .noRole) (hres : s.cu.reservation = none) : ClaimRight s :=
  ⟨fun _ => hres, fun h => absurd hrole h, fun h => by rw [hres] at h; cases h⟩

/-- Before a decision the Claim Unit has no role and no reservation. -/
theorem ClaimRight.silent_of {s : State} (h : ClaimRight s)
    (hn : s.sc.station.takesPart = false ∨ s.pbe.current.length ≤ 11 ∨ s.pbe.role = .noRole) :
    s.cu.role = .noRole ∧ s.cu.reservation = none := by
  have hrole : s.cu.role = .noRole := by
    by_contra hr
    obtain ⟨hp, hl, hb⟩ := h.following hr
    obtain hn | hn | hn := hn
    · rw [hp] at hn; cases hn
    · omega
    · rw [hn] at hb; simp at hb
  exact ⟨hrole, h.silent (.inl hrole)⟩

theorem ServiceSteps.free {t u : ServiceTable} (h : ServiceSteps t u) {j : Handle} (hf : t.entry j = .free) :
    u.entry j = .free := by
  refine Entry.offer_eq_none.mp (Option.eq_none_iff_forall_ne_some.mpr fun o ho => ?_)
  have := h.offer ho
  rw [hf] at this
  cases this

theorem ServiceSteps.holds_eq_false {t u : ServiceTable} (h : ServiceSteps t u) {x : StationId} {k : SourceIndex}
    (hh : t.holds x k = false) : u.holds x k = false :=
  (u.holds_eq_false_iff x k).mpr fun j o ho => (t.holds_eq_false_iff x k).mp hh j o (h.offer ho)

/-- The Claim Unit stands with the frame it follows, while the Service Table changes by its own transitions. -/
theorem ClaimRight.follow {s t : State} (h : ClaimRight s)
    (hst : t.sc.station.takesPart = s.sc.station.takesPart)
    (hpbe : t.pbe.role = s.pbe.role ∧ t.pbe.current = s.pbe.current) (hcu : t.cu = s.cu)
    (hd : t.decidedFrame = s.decidedFrame) (hsvt : ServiceSteps s.svt t.svt) : ClaimRight t where
  silent := hcu ▸ h.silent
  following := by rw [hcu, hst, hpbe.1, hpbe.2]; exact h.following
  answering hr := by
    rw [hcu] at hr
    obtain ⟨f, o, j, hf, ho, hj, hfree, hholds⟩ := h.answering hr
    exact ⟨f, o, j, hd.trans hf, ho, hcu ▸ hj, hsvt.free hfree, hsvt.holds_eq_false hholds⟩

theorem ClaimRight.with_blocks {s t : State} (h : ClaimRight s) (hsc : t.sc.station = s.sc.station)
    (hpbe : t.pbe.role = s.pbe.role ∧ t.pbe.current = s.pbe.current) (hts : t.ts = s.ts) (hcu : t.cu = s.cu)
    (hsvt : ServiceSteps s.svt t.svt) : ClaimRight t :=
  h.follow (by rw [hsc]) hpbe hcu (decidedFrame_congr hsc hpbe.1 hpbe.2 hts (by rw [hcu])) hsvt

theorem ClaimRight.events {s t : State} (h : ClaimRight s) (hu : TableEvents s t) : ClaimRight t :=
  h.with_blocks (by rw [hu.moved.sc]) (by rw [hu.moved.pbe]; exact ⟨rfl, rfl⟩) hu.moved.ts hu.moved.cu hu.steps.svt

theorem State.takeDecision_of_some {s : State} {f : Frame} {h : Handle} (hh : s.eligibleHandle f = some h) :
    (s.takeDecision f).cu.reservation = some h ∧ (s.takeDecision f).cu.role = s.eligibleRole f := by
  simp only [State.takeDecision, hh, and_self]

theorem State.eligibleRole_answers (s : State) {f : Frame} (ho : f.offer.isSome = true) :
    s.eligibleRole f ≠ .noRole ∧ s.eligibleRole f ≠ .declined := by
  cases f with
  | hello | done | withdraw => cases ho
  | direct | spread | pool => simp [State.eligibleRole]

/-- A station that follows a good frame holds it as the frame that its decision was on. -/
theorem State.decidedFrame_of_good {s : State} {f : Frame} (hp : s.sc.station.takesPart = true)
    (hcu : s.cu.role ≠ .noRole) (hg : (s.pbe.role = .sender ∧ ∃ i, s.ts.inHand = some i ∧ i.frame = f) ∨
      (s.pbe.role = .receiver ∧ readFrame s.pbe.current = some f)) : s.decidedFrame = some f := by
  have hc : (s.sc.station.takesPart && s.cu.role != .noRole) = true := by simp [hp, hcu]
  unfold State.decidedFrame
  rw [if_pos hc]
  obtain ⟨hr, i, hi, rfl⟩ | ⟨hr, hf⟩ := hg
  · simp only [hr, hi]
  · simp only [hr, hf]

/-- A station that has declined, or has reserved a FREE entry for an offer that is not held, is right about the good
frame it follows. -/
theorem claimRight_of_answer {s : State} {f : Frame} {o : HeldOffer} (hp : s.sc.station.takesPart = true)
    (hl : 11 < s.pbe.current.length) (hg : (s.pbe.role = .sender ∧ ∃ i, s.ts.inHand = some i ∧ i.frame = f) ∨
      (s.pbe.role = .receiver ∧ readFrame s.pbe.current = some f)) (ho : f.offer = some o)
    (hcu : (s.cu.role = .declined ∧ s.cu.reservation = none) ∨
      (s.cu.role ≠ .noRole ∧ s.cu.role ≠ .declined) ∧ ∃ h, s.cu.reservation = some h ∧ s.svt.entry h = .free ∧
        s.svt.holds o.origin o.source = false) : ClaimRight s := by
  refine ⟨fun hs => ?_, fun _ => ⟨hp, hl, hg.imp And.left And.left⟩, fun hr => ?_⟩
  · obtain ⟨-, hnone⟩ | ⟨⟨hno, hdecl⟩, -⟩ := hcu
    · exact hnone
    · exact absurd hs (by simp [hno, hdecl])
  · obtain ⟨-, hnone⟩ | ⟨⟨hno, -⟩, h, hres, hfree, hholds⟩ := hcu
    · rw [hnone] at hr
      cases hr
    · exact ⟨f, o, h, State.decidedFrame_of_good hp hno hg, ho, hres, hfree, hholds⟩

/-- What the Claim Unit answers to an offer: it declines, or reserves a FREE entry (R85, R86, R90). -/
theorem State.takeDecision_answer (s : State) {f : Frame} {o : HeldOffer} (ho : f.offer = some o) :
    ((s.takeDecision f).cu.role = .declined ∧ (s.takeDecision f).cu.reservation = none) ∨
      ((s.takeDecision f).cu.role ≠ .noRole ∧ (s.takeDecision f).cu.role ≠ .declined) ∧
        ∃ h, (s.takeDecision f).cu.reservation = some h ∧ s.svt.entry h = .free ∧
          s.svt.holds o.origin o.source = false := by
  cases hh : s.eligibleHandle f with
  | none => rw [State.takeDecision_declines hh]; exact .inl ⟨rfl, rfl⟩
  | some h =>
    obtain ⟨hres, hrole⟩ := State.takeDecision_of_some hh
    obtain ⟨⟨-, -, -, -, hnew⟩, hfree, -⟩ := (State.eligibleHandle_eq_some ho).mp hh
    rw [hres, hrole]
    refine .inr ⟨s.eligibleRole_answers (by rw [ho]; rfl), h, rfl, hfree, (s.svt.holds_eq_false_iff _ _).mpr ?_⟩
    intro j l hl hx hk
    obtain ⟨q, hq⟩ := Entry.offer_eq_some.mp hl
    exact hnew j l q hq ⟨hx, hk⟩

/-- A decision follows a good offer frame past its ERR bit. -/
theorem claimRight_decision {s : State} {samples : List Bool} {f : Frame} (hg : s.spanEnd samples = .good f)
    (ho : f.offer.isSome = true) : ClaimRight { (s.takeDecision f).drove (s.spanDrive samples) with
      pbe := { (s.takeDecision f).pbe with current := s.pbe.current ++ samples, driving := false } } := by
  obtain ⟨hp, hlen⟩ := State.takesPart_of_spanEnd hg (by simp)
  obtain ⟨hne, hgood⟩ := State.spanEnd_good hg
  obtain ⟨o, ho⟩ := Option.isSome_iff_exists.mp ho
  have hanswer := s.takeDecision_answer ho
  have hl : 11 < (s.pbe.current ++ samples).length := by
    rw [List.length_append, hlen]
    exact Nat.lt_add_of_pos_right (List.length_pos_iff.mpr hne)
  rw [State.takeDecision_moved]
  exact claimRight_of_answer (f := f) (o := o) hp hl hgood ho hanswer

theorem Effect.keeps_claim {c : Instr} {s t : State} (h : Effect c s t) (hs : ClaimRight s) : ClaimRight t := by
  cases h with
  | stands => exact hs
  | resets | commits | rejoins | halts => exact claimRight_silent_of rfl rfl
  | endsReset _ hr =>
    obtain ⟨hrole, hres⟩ := hs.silent_of (.inl (by rw [hr]; rfl))
    exact claimRight_silent_of hrole hres
  | stores | acknowledges | expires | retries | counts => exact hs.with_blocks rfl ⟨rfl, rfl⟩ rfl rfl .refl
  | parks hr =>
    refine hs.follow (by rw [hr]; rfl) ⟨rfl, rfl⟩ rfl ?_ .refl
    simp only [State.decidedFrame, State.settle_sc, State.settle_cu, State.settle_pbe, State.settle_ts, hr]
    rfl
  | unparks hr =>
    refine hs.follow (by rw [hr]; rfl) ⟨rfl, rfl⟩ rfl ?_ .refl
    simp only [State.decidedFrame, State.settle_sc, State.settle_cu, State.settle_pbe, State.settle_ts, hr]
    rfl
  | works _ hu => exact (hs.events hu).with_blocks rfl ⟨rfl, rfl⟩ rfl rfl .refl
  | cancels k _ hu =>
    refine ClaimRight.with_blocks (ClaimRight.events ?_ hu) rfl ⟨rfl, rfl⟩ rfl rfl .refl
    exact hs.with_blocks rfl ⟨rfl, rfl⟩ rfl rfl .refl
  | ticks levels _ hu =>
    have hsampled : ClaimRight (s.sampled levels) := by
      unfold State.sampled
      exact hs.congr rfl rfl rfl rfl rfl
    rw [State.tickHello_eq]
    exact (hsampled.events hu).with_blocks rfl ⟨rfl, rfl⟩ rfl rfl .refl
  | debounces _ _ _ _ _ hu =>
    refine ClaimRight.with_blocks (ClaimRight.events ?_ hu) rfl ⟨rfl, rfl⟩ rfl rfl .refl
    exact hs.with_blocks rfl ⟨rfl, rfl⟩ rfl rfl .refl
  | enters _ _ hr | follows _ hr =>
    obtain ⟨hrole, hres⟩ := hs.silent_of (.inr (.inr hr))
    exact claimRight_silent_of hrole hres
  | hears _ _ hl =>
    obtain ⟨hrole, hres⟩ := hs.silent_of (.inr (.inl (by omega)))
    exact claimRight_silent_of hrole hres
  | arbitrates _ _ _ _ _ _ hl _ hu =>
    obtain ⟨hrole, hres⟩ := hs.silent_of (.inr (.inl (by omega)))
    have hcu := hu.moved.cu
    exact claimRight_silent_of (by rw [State.settle_cu, hcu]; exact hrole) (by rw [State.settle_cu, hcu]; exact hres)
  | abandons _ _ hl | helloDiscarded _ _ hl | helloSent _ _ _ hl =>
    obtain ⟨hrole, hres⟩ := hs.silent_of (.inr (.inl (by omega)))
    exact claimRight_silent_of hrole hres
  | ends _ _ hl hu =>
    obtain ⟨hrole, hres⟩ := hs.silent_of (.inr (.inl (by omega)))
    have hcu := hu.moved.cu
    exact claimRight_silent_of (by rw [State.settle_cu, State.endFrame_cu, hcu]; exact hrole)
      (by rw [State.settle_cu, State.endFrame_cu, hcu]; exact hres)
  | decides samples f hg ho => exact claimRight_decision hg ho
  | offerEnds _ _ _ _ _ _ hu =>
    have hcu := hu.moved.cu
    exact claimRight_silent_of (by rw [State.settle_cu, State.endFrame_cu, hcu]; rfl)
      (by rw [State.settle_cu, State.endFrame_cu, hcu]; rfl)
  | reports _ hu =>
    refine (hs.events hu).follow (by simp) (by simp) (by simp) ?_ ?_
    · exact (decidedFrame_congr (by simp) (by simp) (by simp) (by simp) (by simp)).trans (State.decidedFrame_markReported _)
    · rw [State.settle_svt, State.markReported_svt]

/-- Settles O57: a reservation is held only from the decision to the end of the offer decided on, so what is installed
is FREE and no duplicate then. -/
theorem claimsNeverDuplicateAnEntry : Obligations.ClaimsNeverDuplicateAnEntry := by
  refine ⟨fun s t hs h => ?_, fun s t hc hs h => ?_⟩
  · refine step_keeps (P := ClaimRight) (fun _ _ h => h.congr rfl rfl rfl rfl rfl)
      (fun _ _ hm h => h.congr hm.sc hm.pbe hm.ts hm.cu hm.svt) (fun s t hc h => ?_)
      (fun _ _ _ => Effect.keeps_claim) hs h
    obtain ⟨-, -, rfl⟩ | ⟨n, rfl⟩ := hc
    · exact h.congr rfl rfl rfl rfl rfl
    · exact h.congr rfl rfl rfl rfl rfl
  · exact (noDuplicateEntries_iff t).mpr (step_keeps_noDuplicates hc ((noDuplicateEntries_iff s).mp hs) h)

end Sys2Proof.Machine
end

section
/-! Reset and the CLKIN period: the values after reset, what a full reset leaves, and how it ends (R24 to R26, R42). -/
namespace Sys2Proof.Machine

/-! The step -/

/-- Settles O1: both sides are the front command's effect on the queue's rest, by definition. -/
theorem stepRunsTheFrontCommand : Obligations.StepRunsTheFrontCommand := fun _ _ => rfl

theorem step_of_empty {s : State} (h : s.pending = []) : step s = .next s.clkinPeriod := by
  unfold step
  split
  · rfl
  next c rest hc => rw [h] at hc; cases hc

theorem exec_stationTick {s : State} (h : s.sc.station.takesPart = true) (levels : BitVec 16) :
    exec (.stationTick levels) s = .next (s.tick levels) := congrArg Host.Outcome.next (if_pos h)

theorem exec_endOfFullReset {s : State} (h : s.sc.station = .reset) (straps : StationId) :
    exec (.endOfFullReset straps) s = .next (s.endReset straps) := congrArg Host.Outcome.next (if_pos h)

/-- What is left of a RESET command's periods counts down while more than one is left (R25). -/
theorem State.clkinPeriod_counts {s : State} (h : s.sc.station = .reset) (hn : 1 < s.resetPeriods) :
    s.clkinPeriod = { s with resetPeriods := s.resetPeriods - 1 } := by
  have h0 : s.resetPeriods ≠ 0 := by omega
  have h1 : (s.resetPeriods = 1 && !s.pins.resetLow && !s.pins.vddLow) = false := by
    have : s.resetPeriods ≠ 1 := by omega
    simp [this]
  rw [State.clkinPeriod_of_reset h, if_neg h0, h1]
  rfl

/-- With its last period a RESET command's reset ends, where the pins let it (R26). -/
theorem State.clkinPeriod_ends {s : State} (h : s.sc.station = .reset) (hn : s.resetPeriods = 1)
    (hp : s.pins.resetLow = false ∧ s.pins.vddLow = false) : s.clkinPeriod = s.endReset s.pins.straps := by
  obtain ⟨hlow, hvdd⟩ := hp
  have h0 : s.resetPeriods ≠ 0 := by omega
  have h1 : (s.resetPeriods = 1 && !s.pins.resetLow && !s.pins.vddLow) = true := by simp [hn, hlow, hvdd]
  rw [State.clkinPeriod_of_reset h, if_neg h0, if_pos h1]

/-- Settles O2: the CLKIN period by the state that it falls in. -/
theorem emptyQueueStepIsOneClkinPeriod : Obligations.EmptyQueueStepIsOneClkinPeriod := by
  intro s hq
  have hperiods : s.tickPeriods = 256 * s.cs.tickDivider.toNat := rfl
  rw [step_of_empty hq, ← hperiods]
  refine ⟨fun hp hlt => ?_, fun hp hle => ?_, fun hs => ?_, fun hs h0 => ?_, fun hs h1 => ?_, fun hs h1 hl hv => ?_⟩
  · rw [State.clkinPeriod_of_takesPart hp, if_neg (not_le.mpr hlt)]
  · rw [State.clkinPeriod_of_takesPart hp, if_pos hle, exec_stationTick hp]
  · rw [State.clkinPeriod_of_still hs]
  · rw [State.clkinPeriod_of_reset hs, if_pos h0]
  · rw [State.clkinPeriod_counts hs h1]
  · rw [State.clkinPeriod_ends hs h1 ⟨hl, hv⟩, exec_endOfFullReset hs]

/-! Values after reset -/

/-- Settles O4: every value stands in the definitions; the tables hold one value throughout. -/
theorem resetValues : Obligations.ResetValues :=
  ⟨rfl, rfl, rfl, rfl, rfl, rfl, rfl, fun n => get_replicate _ n, fun k => get_replicate _ k,
    fun n => get_replicate _ n, rfl, fun k => get_replicate _ k, rfl, rfl, rfl, rfl, fun h => get_replicate _ h, rfl, rfl,
    rfl, rfl, rfl, rfl⟩

/-- Settles O52: before JOIN the tables are empty, so most of the invariants hold for want of a case. -/
theorem invariantsHoldAtReset : Obligations.InvariantsHoldAtReset := by
  have hfree (h : Handle) : State.reset.svt.entry h = .free := get_replicate _ h
  have hsource (k : SourceIndex) : State.reset.source k = SourceRecord.reset := source_reset rfl k
  have hstore := storeInRange_reset (s := State.reset) rfl
  have hblocks := blockCountersInRange_reset hstore rfl rfl rfl (Nat.zero_le _)
  have hordered : ReadyListOrdered State.reset := readyListOrdered_empty rfl fun k => by
    rw [hsource]
    simp [SourceRecord.reset]
  refine ⟨⟨?_, rfl, (anyFailed_reset rfl).symm, by decide⟩, ⟨(by cases ·), (by cases ·)⟩, hstore,
    ⟨Nat.le_refl 16, hblocks.idleCount, hblocks.integrationCount, hblocks.prescaler, hblocks.prescalerHeld,
      hblocks.debounce, hblocks.helloRetry, fun k t => ?_, by simp [State.reset], by simp [State.reset],
      hblocks.inputBits⟩,
    ⟨hordered.members, hordered.once, hordered.ordered, fun _ => rfl⟩, sourcesRight_cleared rfl rfl,
    claimRight_silent_of rfl rfl, fun h j o p o' p' ho => ?_, (stackRight_iff _).mpr stackRight_reset,
    (arrivalsRight_iff _).mpr arrivalsRight_reset, (noticesMatch_iff _).mpr (noticesOwed_empty rfl (fun h o c => ?_) ?_)⟩
  · rfl
  · rw [hsource]; simp [SourceRecord.reset]
  · rw [hfree] at ho; cases ho
  · rw [hfree]; simp
  · intro k x
    rw [hsource]
    simp [SourceRecord.reset]

/-! What a full reset leaves -/

/-- Entry to RESET leaves the full-reset state; a port frame in progress goes on as one that the reset cut, with LSDO
at 1 (R24). -/
theorem State.enterReset_eq (s : State) : s.enterReset =
    let r := s.fullyReset (match s.lp.frame with
      | .inProgress => .cutByReset s.lp.buffer
      | f => f)
    if s.lp.frame = .inProgress then { r with pins := { r.pins with lsdo := some true } } else r := by
  obtain ⟨_, _, _, _, _, _, _, _, _, ⟨frame, _, _, _, _, _⟩, _, _, _, _⟩ := s
  cases frame <;> rfl

/-- Settles O5: entry to RESET is `State.enterReset_eq`, and the RESET command adds its sixteen periods. -/
theorem fullResetResetsEveryBlock : Obligations.FullResetResetsEveryBlock := by
  refine ⟨fun s => ?_, fun s h => ?_⟩
  · intro r t
    have henter : s.enterReset = t := s.enterReset_eq
    rw [← henter]
    exact ⟨rfl, rfl, rfl⟩
  · have ht : s.takeFrame 0x3F ⟨[], []⟩ = .taken := State.takeFrame_open h _ _ rfl rfl (by simp) (by simpa [admittedIn] using h.2)
    have hx : exec (.reset ⟨[], []⟩) s = .next { (s.clockFrame (portFrameBits 0x3F ⟨[], []⟩)).enterReset with
        resetPeriods := Config.resetCommandPeriods } := by
      show execReset ⟨[], []⟩ s = _
      simp only [execReset, ht]
    rw [hx, State.clockFrame_open h]
    rfl

/-! The end of a full reset -/

theorem run_succ {n : Nat} {s t : State} {r : Host.Outcome State Fault Refusal} (h : step s = .next t)
    (hr : Sys2Proof.core.run n t = r) : Sys2Proof.core.run (n + 1) s = r := by
  have hcore : Sys2Proof.core.step s = .next t := h
  simp only [Host.Core.run, hcore]
  exact hr

/-- A RESET command's reset that n + 1 periods are left of ends with the last of them. -/
theorem run_to_endReset (n : Nat) : ∀ s : State, s.sc.station = .reset → s.resetPeriods = n + 1 →
    s.pins.resetLow = false ∧ s.pins.vddLow = false → s.pending = [] →
    Sys2Proof.core.run (n + 1) s = .next (s.endReset s.pins.straps) := by
  induction n with
  | zero =>
    intro s hs hn hp hq
    have hstep : step s = .next (s.endReset s.pins.straps) := by
      rw [step_of_empty hq, State.clkinPeriod_ends hs hn hp]
    exact run_succ hstep rfl
  | succ n ih =>
    intro s hs hn hp hq
    have hstep : step s = .next { s with resetPeriods := n + 1 } := by
      rw [step_of_empty hq, State.clkinPeriod_counts hs (by omega), hn]
      rfl
    exact run_succ hstep (ih { s with resetPeriods := n + 1 } hs rfl hp hq)

/-- Before its last period the reset goes on. -/
theorem run_in_reset (n : Nat) : ∀ s : State, s.sc.station = .reset → n < s.resetPeriods → s.pending = [] →
    Sys2Proof.core.run n s = .next { s with resetPeriods := s.resetPeriods - n } := by
  induction n with
  | zero => exact fun s _ _ _ => rfl
  | succ n ih =>
    intro s hs hn hq
    have hstep : step s = .next { s with resetPeriods := s.resetPeriods - 1 } := by
      rw [step_of_empty hq, State.clkinPeriod_counts hs (by omega)]
    have hrest := ih { s with resetPeriods := s.resetPeriods - 1 } hs (by dsimp only; omega) hq
    have hsub : s.resetPeriods - 1 - n = s.resetPeriods - (n + 1) := by omega
    exact run_succ hstep (hrest.trans (by rw [hsub]))

/-- Settles O6: the periods of a RESET command are counted by `run_in_reset`, and the reset ends with the last
(`run_to_endReset`). -/
theorem fullResetEnds : Obligations.FullResetEnds := by
  refine ⟨fun s straps => ⟨fun hs => exec_endOfFullReset hs straps, fun hs => ?_⟩,
    fun s hs hn hl hv hq => ⟨fun n hlt => ?_, ?_⟩⟩
  · exact congrArg Host.Outcome.next (if_neg hs)
  · exact ⟨_, run_in_reset n s hs (by omega) hq, hs⟩
  · have hpins : ({ s.pins with straps := s.pins.straps, resetLow := false, vddLow := false } : Pins) = s.pins := by
      generalize s.pins = pins at hl hv ⊢
      cases pins
      cases hl
      cases hv
      rfl
    rw [run_to_endReset 15 s hs hn ⟨hl, hv⟩ hq, State.endReset, hpins]

end Sys2Proof.Machine
end

section
/-! The station tick: the lines, the timers, and what reaches each source (R42 to R52, R70, R144). -/
namespace Sys2Proof.Machine

/-! What the event of one source at a tick leaves -/

/-- An event of source k leaves the other sources their records and their places on the ready list, and adds to the
Notice List at most at its tail. -/
structure State.tickMoved (k : SourceIndex) (s t : State) : Prop where
  moved : s.sourceMoved k t
  ready : ∀ j, j ≠ k → (j ∈ t.st.ready ↔ j ∈ s.st.ready)
  nl : ∃ created, t.nl = s.nl ++ created

theorem State.tickMoved_refl (k : SourceIndex) (s : State) : s.tickMoved k s :=
  ⟨State.sourceMoved_refl k s, fun _ _ => Iff.rfl, [], (List.append_nil _).symm⟩

theorem State.tickMoved_trans {k : SourceIndex} {s t u : State} (h : s.tickMoved k t) (h' : t.tickMoved k u) :
    s.tickMoved k u := by
  obtain ⟨c, hc⟩ := h.nl
  obtain ⟨c', hc'⟩ := h'.nl
  exact ⟨State.sourceMoved_trans h.moved h'.moved, fun j hj => (h'.ready j hj).trans (h.ready j hj), c ++ c', by
    rw [hc', hc, List.append_assoc]⟩

theorem State.setSource_tickMoved (s : State) (k : SourceIndex) (r : SourceRecord) : s.tickMoved k (s.setSource k r) :=
  ⟨State.setSource_moved s k r, fun _ _ => Iff.rfl, [], (List.append_nil _).symm⟩

theorem State.mem_readyJoined (s : State) (k j : SourceIndex) (l : List SourceIndex) :
    j ∈ s.readyJoined k l ↔ j = k ∨ j ∈ l := mem_joinReady _ k j l

theorem State.enterReady_tickMoved (s : State) (k : SourceIndex) : s.tickMoved k (s.enterReady k) := by
  refine ⟨State.enterReady_moved s k, fun j hj => ?_, [], (List.append_nil _).symm⟩
  rw [State.enterReady_eq]
  exact (State.mem_readyJoined s k j _).trans (by simp [hj])

theorem State.enterIdle_tickMoved (s : State) (k : SourceIndex) : s.tickMoved k (s.enterIdle k) := by
  refine ⟨State.enterIdle_moved s k, fun j hj => ?_, [], by rw [State.enterIdle_nl, List.append_nil]⟩
  rw [State.enterIdle_eq]
  split
  · exact (State.mem_readyJoined s k j _).trans (by simp [hj, State.mem_readyLeft])
  · exact (State.mem_readyLeft s k j).trans (by simp [hj])

theorem State.requestEvent_tickMoved (s : State) (k : SourceIndex) : s.tickMoved k (s.requestEvent k) := by
  unfold State.requestEvent
  split
  next => exact State.enterReady_tickMoved s k
  next =>
    split
    · exact State.setSource_tickMoved s k _
    · exact State.tickMoved_refl k s
  next => exact State.setSource_tickMoved s k _
  next => exact State.setSource_tickMoved s k _
  next => exact State.setSource_tickMoved s k _
  next => exact State.setSource_tickMoved s k _
  next => exact State.tickMoved_refl k s

theorem State.withdrawEvent_tickMoved (s : State) (k : SourceIndex) : s.tickMoved k (s.withdrawEvent k) := by
  unfold State.withdrawEvent
  split
  next => exact State.tickMoved_refl k s
  next =>
    split
    · exact State.setSource_tickMoved s k _
    · exact State.enterIdle_tickMoved s k
  next => exact State.setSource_tickMoved s k _
  next => exact State.enterIdle_tickMoved s k
  next => exact ⟨State.enterWithdrawing_moved s k _, fun _ _ => Iff.rfl, _, rfl⟩
  next => exact State.tickMoved_refl k s
  next => exact State.tickMoved_refl k s

theorem State.backoffExpires_eq (s : State) (k : SourceIndex) :
    s.backoffExpires k = s.putSource k { s.source k with state := .ready } (s.readyJoined k s.st.ready) := rfl

theorem State.tickSource_tickMoved (s : State) (k : SourceIndex) : s.tickMoved k (s.tickSource k) := by
  unfold State.tickSource
  split
  next =>
    split
    · exact ⟨State.backoffExpires_moved s k, fun j hj => (State.mem_readyJoined s k j _).trans (by simp [hj]), [],
        (List.append_nil _).symm⟩
    · exact State.setSource_tickMoved s k _
  next => exact State.tickMoved_refl k s

theorem State.takeLineEvent_tickMoved (s : State) (k : SourceIndex) (e : Option LineEvent) :
    s.tickMoved k (s.takeLineEvent k e) := by
  unfold State.takeLineEvent
  split
  · exact State.requestEvent_tickMoved s k
  · exact State.withdrawEvent_tickMoved s k
  · exact State.tickMoved_refl k s

theorem State.tickSourceWith_tickMoved (step : LineIndex → LineStep) (s : State) (k : SourceIndex) :
    s.tickMoved k (State.tickSourceWith step s k) := by
  unfold State.tickSourceWith
  split
  · split
    · exact State.tickMoved_trans (State.requestEvent_tickMoved s k) (State.tickSource_tickMoved _ k)
    · exact State.tickMoved_trans (State.tickSource_tickMoved s k) (State.requestEvent_tickMoved _ k)
  · exact State.tickMoved_trans (State.takeLineEvent_tickMoved s k _) (State.tickSource_tickMoved _ k)

/-! All sources at a tick -/

/-- What a run over sources leaves: the Source Table and the Notice List move, which only grows. -/
theorem foldl_tickMoved {f : State → SourceIndex → State} (h : ∀ (s : State) k, s.tickMoved k (f s k)) (ks : List SourceIndex)
    (s : State) : s.sourcesMoved (ks.foldl f s) ∧ ∃ created, (ks.foldl f s).nl = s.nl ++ created := by
  induction ks generalizing s with
  | nil => exact ⟨rfl, [], (List.append_nil _).symm⟩
  | cons k ks ih =>
    obtain ⟨hmoved, c, hc⟩ := ih (f s k)
    obtain ⟨c', hc'⟩ := (h s k).nl
    exact ⟨State.sourcesMoved_trans (h s k).moved.1 hmoved, c' ++ c, by
      rw [List.foldl_cons, hc, hc', List.append_assoc]⟩

/-- A run over other sources leaves source k its record and its place on the ready list. -/
theorem foldl_tickMoved_of_notMem {f : State → SourceIndex → State} (h : ∀ (s : State) k, s.tickMoved k (f s k))
    (ks : List SourceIndex) (s : State) {k : SourceIndex} (hk : k ∉ ks) :
    (ks.foldl f s).source k = s.source k ∧ (k ∈ (ks.foldl f s).st.ready ↔ k ∈ s.st.ready) := by
  induction ks generalizing s with
  | nil => exact ⟨rfl, Iff.rfl⟩
  | cons j ks ih =>
    obtain ⟨hkj, hk⟩ := not_or.mp (mt List.mem_cons.mpr hk)
    obtain ⟨hsource, hready⟩ := ih (f s j) hk
    exact ⟨hsource.trans ((h s j).moved.2 k hkj), hready.trans ((h s j).ready k hkj)⟩

/-- Source k in a run over all sources takes its own event, in a state that differs from the first in other records
alone; what the run does after it leaves the record of k, its place on the ready list and the notices. -/
theorem foldl_at {f : State → SourceIndex → State} (h : ∀ (s : State) k, s.tickMoved k (f s k)) (s : State) (k : SourceIndex) :
    ∃ u, s.sourcesMoved u ∧ u.source k = s.source k ∧ (k ∈ u.st.ready ↔ k ∈ s.st.ready) ∧
      (allSources.foldl f s).source k = (f u k).source k ∧
      (k ∈ (allSources.foldl f s).st.ready ↔ k ∈ (f u k).st.ready) ∧
      ∀ n ∈ (f u k).nl, n ∈ (allSources.foldl f s).nl := by
  obtain ⟨a, b, hab⟩ := List.append_of_mem (List.mem_finRange k)
  have hnd : (a ++ k :: b).Nodup := hab ▸ List.nodup_finRange 24
  rw [List.nodup_append] at hnd
  obtain ⟨-, hnb, hne⟩ := hnd
  have hka : k ∉ a := fun hm => hne k hm k (List.mem_cons_self ..) rfl
  have hkb : k ∉ b := (List.nodup_cons.mp hnb).1
  obtain ⟨hsource, hready⟩ := foldl_tickMoved_of_notMem h a s hka
  obtain ⟨hsource', hready'⟩ := foldl_tickMoved_of_notMem h b (f (a.foldl f s) k) hkb
  obtain ⟨-, c, hc⟩ := foldl_tickMoved h b (f (a.foldl f s) k)
  refine ⟨a.foldl f s, (foldl_tickMoved h a s).1, hsource, hready, ?_⟩
  rw [allSources, hab, List.foldl_append, List.foldl_cons]
  exact ⟨hsource', hready', fun n hn => by rw [hc]; exact List.mem_append_left _ hn⟩

/-- The sources after a tick. -/
def State.ticked (s : State) (levels : BitVec 16) : State :=
  allSources.foldl (State.tickSourceWith (s.lineStepAt levels)) (s.sampled levels)

/-- The last part of a tick: the timers of the Notice List and of Station Control run, and the pins settle. -/
def State.tickEnd (s : State) : State :=
  ({ s.tickNotices.tickHello with ticks := s.tickNotices.tickHello.ticks + 1 } : State).settle

theorem State.tickEnd_blocks (s : State) : s.tickEnd.liu = s.liu ∧ s.tickEnd.pins.lines = s.pins.lines ∧
    s.tickEnd.sc = s.tickHello.sc ∧ s.tickEnd.cs = s.cs ∧ s.tickEnd.ts = s.ts ∧ s.tickEnd.pbe = s.pbe ∧
    s.tickEnd.cu = s.cu ∧ s.tickEnd.svt = s.svt ∧
    s.tickEnd.lp = { s.lp with alerts := { s.lp.alerts with fail := s.tickEnd.anyFailed } } := by
  have hsc : s.tickNotices.tickHello.sc = s.tickHello.sc := by
    unfold State.tickHello
    simp only [State.tickNotices_sc]
    split
    · split <;> rfl
    · rfl
  unfold State.tickEnd
  rw [State.settle_sc, State.settle_lp, show ({ s.tickNotices.tickHello with
    ticks := s.tickNotices.tickHello.ticks + 1 } : State).sc = s.tickHello.sc from hsc, State.tickHello_eq]
  exact ⟨rfl, rfl, rfl, rfl, rfl, rfl, rfl, rfl, rfl⟩

theorem State.tickEnd_tables (s : State) : s.tickEnd.st = s.st ∧
    s.tickEnd.nl = s.nl.map fun n => { n with holdOff := tickTimer n.holdOff } := by
  unfold State.tickEnd
  rw [State.tickHello_eq]
  exact ⟨rfl, rfl⟩

theorem State.tick_eq (s : State) (levels : BitVec 16) : s.tick levels = (s.ticked levels).tickEnd := rfl

theorem State.tick_st (s : State) (levels : BitVec 16) : (s.tick levels).st = (s.ticked levels).st :=
  (s.ticked levels).tickEnd_tables.1

theorem State.tick_nl (s : State) (levels : BitVec 16) : (s.tick levels).nl =
    (s.ticked levels).nl.map fun n => { n with holdOff := tickTimer n.holdOff } := (s.ticked levels).tickEnd_tables.2

theorem State.tick_source (s : State) (levels : BitVec 16) (k : SourceIndex) :
    (s.tick levels).source k = (s.ticked levels).source k := by
  unfold State.source
  rw [State.tick_st]

theorem State.sampled_st (s : State) (levels : BitVec 16) : (s.sampled levels).st = s.st := by
  simp only [State.sampled]

theorem State.source_sampled (s : State) (levels : BitVec 16) (k : SourceIndex) :
    (s.sampled levels).source k = s.source k := by
  unfold State.source
  rw [State.sampled_st]

/-- Source k at a tick takes its own event, in a state with the lines sampled that differs in other records alone. -/
theorem State.tick_at (s : State) (levels : BitVec 16) (k : SourceIndex) :
    ∃ u, (s.sampled levels).sourcesMoved u ∧ u.source k = s.source k ∧ (k ∈ u.st.ready ↔ k ∈ s.st.ready) ∧
      (s.tick levels).source k = (State.tickSourceWith (s.lineStepAt levels) u k).source k ∧
      (k ∈ (s.tick levels).st.ready ↔ k ∈ (State.tickSourceWith (s.lineStepAt levels) u k).st.ready) ∧
      ∀ n ∈ (State.tickSourceWith (s.lineStepAt levels) u k).nl, n.holdOff = none → n ∈ (s.tick levels).nl := by
  obtain ⟨u, hmoved, hsource, hready, hsource', hready', hnl⟩ :=
    foldl_at (State.tickSourceWith_tickMoved (s.lineStepAt levels)) (s.sampled levels) k
  rw [State.source_sampled] at hsource
  rw [State.sampled_st] at hready
  refine ⟨u, hmoved, hsource, hready, ?_, ?_, fun n hn hh => ?_⟩
  · rw [State.tick_source, State.ticked, hsource']
  · rw [State.tick_st, State.ticked, hready']
  · rw [State.tick_nl]
    refine List.mem_map.mpr ⟨n, by rw [State.ticked]; exact hnl n hn, ?_⟩
    rw [hh, tickTimer, ← hh]

/-! STATION_TICK on the lines and the timers -/

/-- The state of a line after a tick, by R44 to R49: an EDGE line is armed by an inactive sample, disarmed by its
request edge and by an active entry sample; a LEVEL line is armed while q is inactive. -/
theorem lineStep_state (c : LineSetting) (l : LineState) (active : Bool) : (lineStep c l active).state = {
    lastSample := active
    q := if c.debounce then active && decide (3 ≤ l.count) else active
    count := if c.debounce && active then min (l.count + 1) 4 else 0
    armed := if c.level then !(if c.debounce then active && decide (3 ≤ l.count) else active) || l.armed
      else !active || (l.armed && !l.entryDue &&
        !(!l.q && (if c.debounce then active && decide (3 ≤ l.count) else active)))
    entryDue := false } := by
  obtain ⟨activeLow, level, debounce⟩ := c
  obtain ⟨last, q, count, armed, due⟩ := l
  unfold lineStep nextArm nextQ nextCount
  generalize decide (3 ≤ count) = third
  cases level <;> cases debounce <;> cases active <;> cases armed <;> cases due <;> cases q <;> cases third <;> rfl

theorem tickTimer_eq (t : Option Nat) : tickTimer t = t.bind fun n => if n ≤ 1 then none else some (n - 1) := by
  cases t <;> rfl

theorem State.ticked_moved (s : State) (levels : BitVec 16) : (s.sampled levels).sourcesMoved (s.ticked levels) :=
  (foldl_tickMoved (State.tickSourceWith_tickMoved _) allSources _).1

theorem State.tickHello_sc (s : State) : s.tickHello.sc = { s.sc with
    helloPending := s.sc.helloPending || s.sc.helloRetry.any fun n => decide (n ≤ 1),
    helloRetry := s.sc.helloRetry.bind fun n => if n ≤ 1 then none else some (n - 1) } := by
  unfold State.tickHello
  split
  next n hn =>
    split
    next h => simp [hn, h]
    next h => simp [hn, h]
  next hn =>
    generalize s.sc = sc at hn
    cases sc
    cases hn
    simp

theorem State.tickHello_sc_congr {s t : State} (h : t.sc = s.sc) : t.tickHello.sc = s.tickHello.sc := by
  rw [State.tickHello_sc, State.tickHello_sc, h]

/-- Settles O7: the lines by `lineStep_state`, the timers by the last part of the tick, and in between the sources
reach the Source Table and the Notice List's tail alone. -/
theorem stationTickUpdatesLinesAndTimers : Obligations.StationTickUpdatesLinesAndTimers := by
  intro s levels hp
  refine ⟨s.tick levels, exec_stationTick hp levels, ?_⟩
  have hmoved := s.ticked_moved levels
  obtain ⟨-, created, hcreated⟩ := foldl_tickMoved (State.tickSourceWith_tickMoved (s.lineStepAt levels)) allSources
    (s.sampled levels)
  have hnl : (s.ticked levels).nl = s.nl ++ created := by
    rw [State.ticked, hcreated]
    simp only [State.sampled]
  have hnl' := s.tick_nl levels
  have hend := (s.ticked levels).tickEnd_blocks
  rw [State.tick_eq] at hnl' ⊢
  generalize (s.ticked levels).tickEnd = t at hend hnl' ⊢
  generalize s.ticked levels = u at hmoved hnl hnl' hend
  obtain ⟨hliu, hlines, hsc, hcs, hts, hpbe, hcu, hsvt, hlp⟩ := hend
  have hsampled : u.liu = (s.sampled levels).liu ∧ u.pins = (s.sampled levels).pins ∧ u.sc = s.sc ∧ u.cs = s.cs ∧
      u.ts = s.ts ∧ u.pbe = s.pbe ∧ u.cu = s.cu ∧ u.svt = s.svt ∧ u.lp = s.lp := by
    refine ⟨hmoved.liu, hmoved.pins, ?_⟩
    rw [hmoved.sc, hmoved.cs, hmoved.ts, hmoved.pbe, hmoved.cu, hmoved.svt, hmoved.lp]
    simp only [State.sampled, and_self]
  obtain ⟨hliu', hpins', hsc', hcs', hts', hpbe', hcu', hsvt', hlp'⟩ := hsampled
  refine ⟨?_, ?_, fun n => ?_, ?_, ⟨created.map fun n => { n with holdOff := tickTimer n.holdOff }, ?_⟩,
    hcs.trans hcs', hts.trans hts', hpbe.trans hpbe', hcu.trans hcu', hsvt.trans hsvt', ?_⟩
  · rw [hliu, hliu']
    simp only [State.sampled]
  · rw [hlines, hpins']
    simp only [State.sampled]
  · have hline : t.line n = (s.lineStepAt levels n).state := by
      rw [State.line, hliu, hliu']
      simp only [State.sampled, get_ofFn]
    exact hline.trans (lineStep_state _ _ _)
  · rw [hsc, State.tickHello_sc_congr hsc', State.tickHello_sc]
  · simp only [hnl', hnl, List.map_append, tickTimer_eq]
  · rw [hlp, hlp']
    exact ⟨rfl, rfl, rfl⟩

end Sys2Proof.Machine
end

section
/-! What reaches one source at a tick: its line's event and its backoff timer (R48 to R52, R63, R70, R72, R82). -/
namespace Sys2Proof.Machine

/-! The event of a line at a tick -/

/-- Line n's q after a tick with these pin levels (R45, R46). -/
def State.qAt (s : State) (levels : BitVec 16) (n : LineIndex) : Bool :=
  nextQ (s.setting n) (s.line n) (pinActive (s.setting n) (levels.getLsbD n.val))

/-- A line gives a request edge where an armed EDGE line past its entry sample has q rise (R47, R48). -/
theorem lineStep_edge (c : LineSetting) (l : LineState) (active : Bool) : (lineStep c l active).edge =
    (!c.level && !l.q && nextQ c l active && l.armed && !l.entryDue) := by
  obtain ⟨activeLow, level, debounce⟩ := c
  obtain ⟨last, q, count, armed, due⟩ := l
  unfold lineStep nextArm nextQ
  generalize decide (3 ≤ count) = third
  cases level <;> cases debounce <;> cases active <;> cases armed <;> cases due <;> cases q <;> cases third <;> rfl

theorem lineStep_withdraw (c : LineSetting) (l : LineState) (active : Bool) :
    (lineStep c l active).withdraw = (c.level && l.q && !nextQ c l active) := rfl

/-- A LEVEL line with q active keeps its arm flag (R49). -/
theorem lineStep_armed_level {c : LineSetting} {l : LineState} {active : Bool} (hl : c.level = true)
    (hq : nextQ c l active = true) : (lineStep c l active).state.armed = l.armed := by
  have hdue : (l.entryDue && !c.level && active) = false := by rw [hl]; simp
  simp [lineStep, nextArm, hl, hq]

/-- The Source Table's state while the lines of a tick stand sampled. -/
structure State.sampledAs (s : State) (levels : BitVec 16) (u : State) : Prop where
  cs : u.cs = s.cs
  line : ∀ n, u.line n = (s.lineStepAt levels n).state
  ts : u.ts = s.ts

theorem State.sampledAs_of_moved {s u : State} {levels : BitVec 16} (h : (s.sampled levels).sourcesMoved u) :
    s.sampledAs levels u := by
  refine ⟨?_, fun n => ?_, ?_⟩
  · rw [h.cs]; simp only [State.sampled]
  · rw [State.line, h.liu]; simp only [State.sampled, get_ofFn]
  · rw [h.ts]; simp only [State.sampled]

theorem State.sampledAs.route {s u : State} {levels : BitVec 16} (h : s.sampledAs levels u) (k : SourceIndex) :
    u.route k = s.route k := by unfold State.route; rw [h.cs]

/-- Where a tick leaves a LEVEL line asking for a request (R50). -/
theorem State.sampledAs.levelAsks {s u : State} {levels : BitVec 16} (h : s.sampledAs levels u) (n : LineIndex) :
    u.levelAsks (sourceOf n) =
      ((s.setting n).level && s.qAt levels n && (s.line n).armed && (s.route (sourceOf n)).enabled) := by
  have hset : u.setting n = s.setting n := by unfold State.setting; rw [h.cs]
  simp only [State.levelAsks, lineOf_sourceOf, hset, h.line, h.route]
  have hq : (s.lineStepAt levels n).state.q = s.qAt levels n := rfl
  rw [hq]
  cases hl : (s.setting n).level with
  | false => rfl
  | true =>
    cases hqa : s.qAt levels n with
    | false => rfl
    | true => rw [show (s.lineStepAt levels n).state.armed = (s.line n).armed from lineStep_armed_level hl hqa]

/-- The event of a line at a tick: a withdraw where q of a LEVEL line falls; a request where a LEVEL line asks for an
IDLE source, or an EDGE line gives its edge; none where its route is disabled (R48, R50 to R52). -/
theorem State.sampledAs.lineEvent {s u : State} {levels : BitVec 16} (h : s.sampledAs levels u) (n : LineIndex) :
    u.lineEvent n (s.lineStepAt levels n) =
      if (s.route (sourceOf n)).enabled = false then none
      else if (s.setting n).level = true then
        if (s.line n).q = true ∧ s.qAt levels n = false then some .withdraw
        else if s.qAt levels n = true ∧ (s.line n).armed = true ∧ (u.source (sourceOf n)).state = .idle then
          some .request
        else none
      else if (s.line n).q = false ∧ s.qAt levels n = true ∧ (s.line n).armed = true ∧ (s.line n).entryDue = false then
        some .request
      else none := by
  have hedge : (s.lineStepAt levels n).edge = (!(s.setting n).level && !(s.line n).q && s.qAt levels n &&
    (s.line n).armed && !(s.line n).entryDue) := lineStep_edge _ _ _
  have hwithdraw : (s.lineStepAt levels n).withdraw = ((s.setting n).level && (s.line n).q && !s.qAt levels n) := rfl
  unfold State.lineEvent
  dsimp only
  rw [h.route, h.levelAsks, hedge, hwithdraw]
  cases (s.route (sourceOf n)).enabled <;> cases (s.setting n).level <;> cases (s.line n).q <;>
    cases s.qAt levels n <;> cases (s.line n).armed <;> cases (s.line n).entryDue <;> simp

/-! The timer of a source at a tick -/

/-- A record after one tick of its backoff timer (R70). -/
def SourceRecord.ticked (r : SourceRecord) : SourceRecord := { r with
  state := match r.state with
    | .backoff n => if n ≤ 1 then .ready else .backoff (n - 1)
    | .idle => .idle
    | .ready => .ready
    | .offering => .offering
    | .placed x => .placed x
    | .withdrawing x w => .withdrawing x w
    | .failed => .failed }

theorem State.source_tickSource (s : State) (k : SourceIndex) :
    (s.tickSource k).source k = (s.source k).ticked := by
  unfold State.tickSource SourceRecord.ticked
  split
  next n hn =>
    split
    next h =>
      rw [State.backoffExpires_eq, State.source_of_st rfl, if_pos rfl, hn]
      simp only [if_pos h]
    next h =>
      rw [State.source_setSource, if_pos rfl, hn]
      simp only [if_neg h]
  next hne =>
    cases hs : s.source k with
    | mk st g r a c m =>
      rw [hs] at hne
      cases st with
      | backoff n => exact absurd rfl (hne n)
      | _ => rfl

theorem State.tickSource_of_not_backoff {s : State} {k : SourceIndex} (h : ∀ n, (s.source k).state ≠ .backoff n) :
    s.tickSource k = s := by
  unfold State.tickSource
  split
  next n hn => exact absurd hn (h n)
  next => rfl

theorem State.mem_ready_tickSource {s : State} {k : SourceIndex} {n : Nat} (h : (s.source k).state = .backoff n)
    (hn : n ≤ 1) : k ∈ (s.tickSource k).st.ready := by
  simp only [State.tickSource, h, if_pos hn, State.backoffExpires_eq]
  exact (State.mem_readyJoined s k k _).mpr (.inl rfl)

/-- Without an event a source only has its timer run. -/
theorem State.tickSourceWith_none {step : LineIndex → LineStep} {s : State} {k : SourceIndex}
    (h : ((lineOf k).bind fun n => s.lineEvent n (step n)) = none) :
    State.tickSourceWith step s k = s.tickSource k := by
  simp only [State.tickSourceWith, h]
  rfl

/-- A line's event comes before its source's timer where the timer does not expire at the same tick. -/
theorem State.tickSourceWith_event {step : LineIndex → LineStep} {s : State} {n : LineIndex}
    (h : s.backoffDue (sourceOf n) = false ∨ s.lineEvent n (step n) ≠ some .request) :
    State.tickSourceWith step s (sourceOf n) =
      (s.takeLineEvent (sourceOf n) (s.lineEvent n (step n))).tickSource (sourceOf n) := by
  unfold State.tickSourceWith
  rw [lineOf_sourceOf, Option.bind_some]
  split
  next he hd =>
    obtain h | h := h
    · rw [hd] at h; cases h
    · exact absurd he h
  next => rfl

/-- Settles O8: such a source gets no event from its line, by `State.sampledAs.lineEvent`. -/
theorem stationTickRunsBackoffTimers : Obligations.StationTickRunsBackoffTimers := by
  intro s levels k hp hcase
  refine ⟨s.tick levels, exec_stationTick hp levels, ?_⟩
  obtain ⟨u, hmoved, hsource, -, htick, hready, -⟩ := s.tick_at levels k
  have hu := State.sampledAs_of_moved hmoved
  have hnone : ((lineOf k).bind fun n => u.lineEvent n (s.lineStepAt levels n)) = none := by
    cases hl : lineOf k with
    | none => rfl
    | some n =>
      have hk := sourceOf_of_lineOf hl
      subst hk
      rw [Option.bind_some, hu.lineEvent, hsource]
      obtain hd | hsoft | ⟨m, hm, hline⟩ := hcase
      · rw [if_pos hd]
      · exact absurd n.isLt (not_lt.mpr hsoft)
      · have hval : (sourceOf n).val = (sourceOf m).val := congrArg Fin.val hm
        cases show n = m from Fin.ext hval
        have hq : s.qAt levels n = if (s.setting n).debounce then
            (levels.getLsbD n.val != (s.setting n).activeLow) && decide (3 ≤ (s.line n).count)
          else levels.getLsbD n.val != (s.setting n).activeLow := rfl
        dsimp only at hline
        rw [← hq] at hline
        split_ifs with hd hlevel hfall hask hedge
        · rfl
        · rw [if_pos hlevel] at hline
          rw [hline.1 hfall.1] at hfall
          exact absurd hfall.2 (by simp)
        · rw [if_pos hlevel] at hline
          exact absurd hask.2.2 (hline.2 hask.1 hask.2.1)
        · rfl
        · rw [if_neg hlevel] at hline
          obtain ⟨hlow, hhigh, harmed, hentry⟩ := hedge
          simp [hlow, hhigh, harmed, hentry] at hline
        · rfl
  rw [htick, hready, State.tickSourceWith_none hnone, State.source_tickSource, hsource]
  exact ⟨rfl, fun ⟨n, hn, hle⟩ => State.mem_ready_tickSource (hsource ▸ hn) hle⟩

/-! A line's event at its source -/

theorem State.newOffer_congr {s u : State} {k : SourceIndex} (hs : u.source k = s.source k)
    (hr : u.route k = s.route k) (again : Bool) : u.newOffer k again = s.newOffer k again := by
  unfold State.newOffer
  rw [hs, hr]

theorem State.idleRecord_congr {s u : State} {k : SourceIndex} (hs : u.source k = s.source k) :
    u.idleRecord k = s.idleRecord k := by
  unfold State.idleRecord
  rw [hs]

theorem State.offerInHand_congr {s u : State} (h : u.ts = s.ts) (k : SourceIndex) :
    u.offerInHand k = s.offerInHand k := by
  unfold State.offerInHand
  rw [h]

theorem State.requestSetsAgain_congr {s u : State} {k : SourceIndex} (hs : u.source k = s.source k)
    (ht : u.ts = s.ts) : u.requestSetsAgain k ↔ s.requestSetsAgain k := by
  unfold State.requestSetsAgain
  rw [hs, State.offerInHand_congr ht]

theorem SourceRecord.ticked_of_not_backoff {r : SourceRecord} (h : ∀ n, r.state ≠ .backoff n) : r.ticked = r := by
  obtain ⟨st, g, retry, a, c, m⟩ := r
  cases st with
  | backoff n => exact absurd rfl (h n)
  | _ => rfl

theorem State.backoffDue_eq_false {s : State} {k : SourceIndex} (h : ∀ n, (s.source k).state = .backoff n → 1 < n) :
    s.backoffDue k = false := by
  unfold State.backoffDue
  split
  next n hn => simpa using h n hn
  next => rfl

theorem State.requestEvent_of_idle {s : State} {k : SourceIndex} (h : (s.source k).state = .idle) :
    (s.requestEvent k).source k = s.newOffer k (s.source k).again ∧ k ∈ (s.requestEvent k).st.ready := by
  simp only [State.requestEvent, h, State.enterReady_eq]
  refine ⟨?_, (State.mem_readyJoined s k k _).mpr (.inl rfl)⟩
  rw [State.source_of_st rfl, if_pos rfl]

theorem State.mem_ready_tickSource_of_mem {s : State} {k : SourceIndex} (h : k ∈ s.st.ready) :
    k ∈ (s.tickSource k).st.ready := by
  unfold State.tickSource
  split
  next =>
    split
    · exact (State.mem_readyJoined s k k _).mpr (.inl rfl)
    · exact h
  next => exact h

section
variable {s : State} {step : LineIndex → LineStep} {n : LineIndex}
  (hevent : s.lineEvent n (step n) = some .request)
include hevent

theorem State.tickSourceWith_request (hd : s.backoffDue (sourceOf n) = false) :
    State.tickSourceWith step s (sourceOf n) = (s.requestEvent (sourceOf n)).tickSource (sourceOf n) := by
  rw [State.tickSourceWith_event (.inl hd), hevent]
  rfl

/-- A request at an IDLE source makes a new offer (R61, R63). -/
theorem State.request_tick_idle (hi : (s.source (sourceOf n)).state = .idle) :
    (State.tickSourceWith step s (sourceOf n)).source (sourceOf n) =
        s.newOffer (sourceOf n) (s.source (sourceOf n)).again ∧
      sourceOf n ∈ (State.tickSourceWith step s (sourceOf n)).st.ready := by
  rw [State.tickSourceWith_request hevent (State.backoffDue_eq_false (by simp [hi]))]
  obtain ⟨hsource, hready⟩ := State.requestEvent_of_idle hi
  rw [State.source_tickSource, hsource]
  exact ⟨SourceRecord.ticked_of_not_backoff (by simp [State.newOffer]), State.mem_ready_tickSource_of_mem hready⟩

/-- A request that sets again, where the backoff timer does not expire at the same tick. -/
theorem State.request_tick_again (hs : s.requestSetsAgain (sourceOf n)) (hd : s.backoffDue (sourceOf n) = false) :
    (State.tickSourceWith step s (sourceOf n)).source (sourceOf n) =
        ({ s.source (sourceOf n) with again := true } : SourceRecord).ticked ∧
      (sourceOf n ∈ s.st.ready → sourceOf n ∈ (State.tickSourceWith step s (sourceOf n)).st.ready) := by
  rw [State.tickSourceWith_request hevent hd, State.requestEvent_setsAgain hs, State.source_tickSource,
    State.source_of_st rfl, if_pos rfl]
  exact ⟨rfl, fun h => State.mem_ready_tickSource_of_mem (s := s.putSource _ _ s.st.ready) h⟩

/-- A request that a READY or FAILED source does not record. -/
theorem State.request_tick_stands (hi : (s.source (sourceOf n)).state ≠ .idle)
    (hs : ¬ s.requestSetsAgain (sourceOf n)) : State.tickSourceWith step s (sourceOf n) = s := by
  have hb : ∀ b, (s.source (sourceOf n)).state ≠ .backoff b := fun b hb => hs (.inr (.inl ⟨b, hb⟩))
  rw [State.tickSourceWith_request hevent (State.backoffDue_eq_false fun b h => absurd h (hb b)),
    State.requestEvent_stands hi hs, State.tickSource_of_not_backoff hb]

/-- Where request and expiry fall on one tick the source is READY, and again is set or as it was, by which of the two
comes first (R82). -/
theorem State.request_tick_due {b : Nat} (hb : (s.source (sourceOf n)).state = .backoff b) (hle : b ≤ 1) :
    ∃ again, (State.tickSourceWith step s (sourceOf n)).source (sourceOf n) =
        { s.source (sourceOf n) with state := .ready, again := again } ∧
      sourceOf n ∈ (State.tickSourceWith step s (sourceOf n)).st.ready ∧
      (again = true ∨ again = (s.source (sourceOf n)).again) := by
  have hd : s.backoffDue (sourceOf n) = true := by simp [State.backoffDue, hb, hle]
  have hticked (again : Bool) : ({ s.source (sourceOf n) with again := again } : SourceRecord).ticked =
      { s.source (sourceOf n) with state := .ready, again := again } := by
    simp [SourceRecord.ticked, hb, hle]
  unfold State.tickSourceWith
  rw [lineOf_sourceOf, Option.bind_some, hevent, hd]
  dsimp only
  generalize sourceOf n = k at hb hticked ⊢
  split
  · refine ⟨true, ?_, ?_, .inl rfl⟩
    · rw [State.requestEvent_setsAgain (.inr (.inl ⟨b, hb⟩)), State.source_tickSource, State.source_of_st rfl,
        if_pos rfl, hticked]
    · rw [State.requestEvent_setsAgain (.inr (.inl ⟨b, hb⟩))]
      exact State.mem_ready_tickSource (n := b) (by rw [State.source_of_st rfl, if_pos rfl]; exact hb) hle
  · have hready := State.mem_ready_tickSource hb hle
    have hsource : (s.tickSource k).source k = { s.source k with state := .ready } :=
      (State.source_tickSource s k).trans (hticked (s.source k).again)
    have hi : ((s.tickSource k).source k).state ≠ .idle := by rw [hsource]; simp
    by_cases hs : (s.tickSource k).requestSetsAgain k
    · rw [State.requestEvent_setsAgain hs, State.source_of_st rfl, if_pos rfl, hsource]
      exact ⟨true, rfl, hready, .inl rfl⟩
    · rw [State.requestEvent_stands hi hs, hsource]
      exact ⟨(s.source k).again, rfl, hready, .inr rfl⟩

end

/-! A withdraw at its source -/

theorem State.tickSourceWith_withdraw {s : State} {step : LineIndex → LineStep} {n : LineIndex}
    (hevent : s.lineEvent n (step n) = some .withdraw) : State.tickSourceWith step s (sourceOf n) =
      (s.withdrawEvent (sourceOf n)).tickSource (sourceOf n) := by
  rw [State.tickSourceWith_event (.inr (by rw [hevent]; simp)), hevent]
  rfl

section
variable {s : State} {k : SourceIndex}

theorem State.withdraw_tick_stands (h : (s.source k).state = .idle ∨ (∃ x w, (s.source k).state = .withdrawing x w) ∨
    (s.source k).state = .failed) : (s.withdrawEvent k).tickSource k = s := by
  have hevent : s.withdrawEvent k = s := by
    obtain h | ⟨x, w, h⟩ | h := h <;> simp only [State.withdrawEvent, h]
  rw [hevent]
  refine State.tickSource_of_not_backoff fun b => ?_
  obtain h | ⟨x, w, h⟩ | h := h <;> simp [h]

theorem State.withdraw_tick_pends (h : (s.source k).state = .offering ∨
    (s.source k).state = .ready ∧ s.offerInHand k = true) :
    ((s.withdrawEvent k).tickSource k).source k = { s.source k with cancelPending := true } := by
  have hevent : s.withdrawEvent k = s.setCancelPending k := by
    obtain h | ⟨h, hi⟩ := h
    · simp only [State.withdrawEvent, h]
    · simp only [State.withdrawEvent, h, hi, if_true]
  rw [hevent, State.source_tickSource, State.setCancelPending, State.source_setSource, if_pos rfl]
  refine SourceRecord.ticked_of_not_backoff ?_
  obtain h | ⟨h, -⟩ := h <;> simp [h]

theorem State.withdraw_tick_idles (h : (∃ b, (s.source k).state = .backoff b) ∨
    (s.source k).state = .ready ∧ s.offerInHand k = false) (hl : s.levelAsks k = false)
    (ha : (s.source k).again = false) :
    (s.withdrawEvent k).tickSource k = s.putSource k (s.idleRecord k) (s.readyLeft k) := by
  have hevent : s.withdrawEvent k = s.enterIdle k := by
    obtain ⟨b, h⟩ | ⟨h, hi⟩ := h
    · simp only [State.withdrawEvent, h]
    · simp only [State.withdrawEvent, h, hi, Bool.false_eq_true, if_false]
  rw [hevent, State.enterIdle_stays ha hl]
  refine State.tickSource_of_not_backoff fun b => ?_
  rw [State.source_of_st rfl, if_pos rfl]
  simp [State.idleRecord]

theorem State.withdraw_tick_placed {x : StationId} (h : (s.source k).state = .placed x) :
    ((s.withdrawEvent k).tickSource k).source k =
        { s.source k with state := .withdrawing x .no, cancelPending := false } ∧
      s.withdrawNotice k x ∈ ((s.withdrawEvent k).tickSource k).nl := by
  have hevent : s.withdrawEvent k = s.enterWithdrawing k x := by simp only [State.withdrawEvent, h]
  have hsource : (s.enterWithdrawing k x).source k =
      { s.source k with state := .withdrawing x .no, cancelPending := false } := by
    show (s.setSource k _).source k = _
    rw [State.source_setSource, if_pos rfl]
  rw [hevent, State.tickSource_of_not_backoff (by simp [hsource])]
  exact ⟨hsource, List.mem_append_right _ (List.mem_singleton.mpr rfl)⟩

end

/-- Settles O9: the line's event by `State.sampledAs.lineEvent`, and what it makes of its source with the timer. -/
theorem lineEventsReachTheirSource : Obligations.LineEventsReachTheirSource := by
  refine ⟨fun s levels n hp he => ?_, fun s levels n hp he hlevel hq hpin => ?_⟩
  · intro c l active q k
    refine ⟨s.tick levels, exec_stationTick hp levels, ?_⟩
    obtain ⟨u, hmoved, hsource, hinit, htick, hready, -⟩ := s.tick_at levels k
    have hu := State.sampledAs_of_moved hmoved
    have hevent := hu.lineEvent n
    have hqa : s.qAt levels n = q := rfl
    rw [if_neg (by simp [he]), hqa, hsource] at hevent
    rw [htick, hready]
    refine ⟨fun hline hhigh hidle => ?_, fun hedge hlow harmed hentry hhigh => ?_⟩
    · have hrequest : u.lineEvent n (s.lineStepAt levels n) = some .request := by
        rw [hevent, hhigh, hidle]
        obtain ⟨h, hlow, harmed, hentry⟩ | ⟨h, harmed⟩ := hline
        · simp only [c, l] at *
          simp [h, hlow, harmed, hentry]
        · simp only [c, l] at *
          simp [h, harmed]
      obtain ⟨hsource', hready'⟩ := State.request_tick_idle hrequest (hsource ▸ hidle)
      exact ⟨hsource'.trans ((State.newOffer_congr hsource (hu.route k) _).trans (by rw [hsource])), hready'⟩
    · have hrequest : u.lineEvent n (s.lineStepAt levels n) = some .request := by
        rw [hevent, hhigh]
        simp only [c, l] at *
        simp [hedge, hlow, harmed, hentry]
      have again (hs : s.requestSetsAgain k) (hd : ∀ b, (s.source k).state = .backoff b → 1 < b) :=
        State.request_tick_again hrequest ((State.requestSetsAgain_congr hsource hu.ts).mpr hs)
          (State.backoffDue_eq_false (by rw [hsource]; exact hd))
      have stands (hi : (s.source k).state ≠ .idle) (hs : ¬ s.requestSetsAgain k) :=
        State.request_tick_stands hrequest (hsource ▸ hi) (mt (State.requestSetsAgain_congr hsource hu.ts).mp hs)
      refine ⟨fun hst => ?_, fun hst hmem => ?_, fun b hb hlt => ?_, fun b hb hle => ?_, fun hst => ?_⟩
      · have hstill : ∀ b, (s.source k).state ≠ .backoff b := by
          intro b hb
          rw [hb] at hst
          simp [SourceState.isPlaced] at hst
        refine (again (hst.imp_right fun h => .inr (.inl h)) fun b hb => absurd hb (hstill b)).1.trans ?_
        rw [hsource]
        exact SourceRecord.ticked_of_not_backoff (r := { s.source k with again := true }) hstill
      · have hstill : ∀ b, (s.source k).state ≠ .backoff b := by simp [hst]
        split
        next hc =>
          obtain ⟨hsource', hready'⟩ := again (.inr (.inr (.inr ⟨hst, hc⟩))) fun b hb => absurd hb (hstill b)
          rw [hsource', hsource]
          exact ⟨hready' (hinit.mpr hmem),
            SourceRecord.ticked_of_not_backoff (r := { s.source k with again := true }) hstill⟩
        next hc =>
          rw [stands (by simp [hst]) (by simpa [State.requestSetsAgain, hst, SourceState.isPlaced] using hc)]
          exact ⟨hinit.mpr hmem, hsource⟩
      · refine (again (.inr (.inl ⟨b, hb⟩)) fun b' hb' => ?_).1.trans ?_
        · cases hb.symm.trans hb'
          exact hlt
        · rw [hsource]
          simp [SourceRecord.ticked, hb, not_le.mpr hlt]
      · obtain ⟨r, hsource', hready', hr⟩ := State.request_tick_due hrequest (by rw [hsource]; exact hb) hle
        rw [hsource] at hsource' hr
        exact ⟨r, hsource', hready', hr⟩
      · rw [stands (by simp [hst]) (by simp [State.requestSetsAgain, hst, SourceState.isPlaced])]
        exact hsource
  · intro k r
    refine ⟨s.tick levels, exec_stationTick hp levels, ?_⟩
    obtain ⟨u, hmoved, hsource, -, htick, hready, hnl⟩ := s.tick_at levels k
    have hu := State.sampledAs_of_moved hmoved
    have hqa : s.qAt levels n = false := by
      unfold State.qAt nextQ pinActive
      rw [hpin]
      split <;> rfl
    have hevent : u.lineEvent n (s.lineStepAt levels n) = some .withdraw := by
      rw [hu.lineEvent, if_neg (by simp [he]), if_pos hlevel, if_pos ⟨hq, hqa⟩]
    have hasks : u.levelAsks k = false := by
      rw [hu.levelAsks, hqa]
      simp
    have hwith := State.tickSourceWith_withdraw (step := s.lineStepAt levels) hevent
    rw [hwith] at htick hready hnl
    have hhand := State.offerInHand_congr hu.ts k
    rw [htick, hready]
    have hidles (h : (∃ b, (s.source k).state = .backoff b) ∨ (s.source k).state = .ready ∧ s.offerInHand k = false)
        (ha : (s.source k).again = false) :
        ((u.withdrawEvent k).tickSource k).source k = s.idleRecord k ∧
          k ∉ ((u.withdrawEvent k).tickSource k).st.ready := by
      rw [State.withdraw_tick_idles (by rw [hsource, hhand]; exact h) hasks (by rw [hsource]; exact ha),
        State.source_of_st rfl, if_pos rfl, State.idleRecord_congr hsource]
      exact ⟨rfl, fun hm => ((u.mem_readyLeft k k).mp hm).2 rfl⟩
    have hpends (h : (s.source k).state = .offering ∨ (s.source k).state = .ready ∧ s.offerInHand k = true) :
        ((u.withdrawEvent k).tickSource k).source k = { s.source k with cancelPending := true } := by
      rw [State.withdraw_tick_pends (by rw [hsource, hhand]; exact h), hsource]
    have hstands (h : (s.source k).state = .idle ∨ (∃ x w, (s.source k).state = .withdrawing x w) ∨
        (s.source k).state = .failed) : ((u.withdrawEvent k).tickSource k).source k = s.source k := by
      rw [State.withdraw_tick_stands (by rw [hsource]; exact h), hsource]
    cases hst : r.state with
    | idle => exact hstands (.inl hst)
    | ready =>
      dsimp only
      split
      next hh => exact (hpends (.inr ⟨hst, hh⟩)).trans (by rw [← hst])
      next hh => exact hidles (.inr ⟨hst, Bool.eq_false_iff.mpr hh⟩)
    | offering => exact (hpends (.inl hst)).trans (by rw [← hst])
    | backoff b => exact fun ha => (hidles (.inl ⟨b, hst⟩) ha).1
    | placed x =>
      obtain ⟨hsource', hnotice⟩ := State.withdraw_tick_placed (s := u) (k := k) (x := x) (by rw [hsource]; exact hst)
      rw [hsource', hsource]
      refine ⟨rfl, ?_⟩
      have hmem := hnl _ hnotice rfl
      unfold State.withdrawNotice at hmem
      rwa [hsource, hu.route] at hmem
    | withdrawing x w => exact hstands (.inr (.inl ⟨x, w, hst⟩))
    | failed => exact hstands (.inr (.inr hst))

/-! The rows of a tick by themselves -/

theorem State.requestEvent_nl (s : State) (k : SourceIndex) : (s.requestEvent k).nl = s.nl := by
  unfold State.requestEvent
  split
  next => rfl
  next => split <;> rfl
  all_goals rfl

theorem State.request_or_none_nl (s : State) (k : SourceIndex) {p : Prop} [Decidable p] :
    (s.takeLineEvent k (if p then some .request else none)).nl = s.nl := by
  split
  · exact State.requestEvent_nl s k
  · rfl

/-- The line's share of the tick that brings its fourth consecutive active sample: q rises, so the event is a request or
none (R45, R48, R50). -/
theorem State.lineEvent_rise {s : State} {n : LineIndex} {l : LineState} (hl : s.line n = (lineStep (s.setting n) l true).state)
    (hq : l.q = false) (hrise : nextQ (s.setting n) l true = true) :
    s.lineEvent n (lineStep (s.setting n) l true) =
      if (s.route (sourceOf n)).enabled = true ∧ l.armed = true ∧
          if (s.setting n).level then (s.source (sourceOf n)).state = .idle else l.entryDue = false
      then some .request else none := by
  have hasks : s.levelAsks (sourceOf n) = ((s.setting n).level && l.armed && (s.route (sourceOf n)).enabled) := by
    simp only [State.levelAsks, lineOf_sourceOf, hl]
    cases hlevel : (s.setting n).level with
    | false => rfl
    | true =>
      rw [lineStep_armed_level hlevel hrise, show (lineStep (s.setting n) l true).state.q = true from hrise]
      rfl
  simp only [State.lineEvent, lineStep_edge, lineStep_withdraw, hq, hrise, hasks]
  cases (s.route (sourceOf n)).enabled <;> cases (s.setting n).level <;> cases l.armed <;> cases l.entryDue <;> simp

/-- Settles O10: the line's event at the fourth active sample is a request or none. -/
theorem debounceQualifiedSetsQ : Obligations.DebounceQualifiedSetsQ := by
  intro s n hp hd hcount hq l k
  have hc : (s.sc.station.takesPart && (s.setting n).debounce && (s.line n).count == 3) = true := by
    simp [hp, hd, hcount]
  have hrise : nextQ (s.setting n) l true = true := by simp [nextQ, hd, l, hcount]
  have hstep : (lineStep (s.setting n) l true).state =
      { lastSample := true, q := true, count := 4, armed := (s.setting n).level && l.armed, entryDue := false } := by
    rw [lineStep_state]
    simp only [hd, l, hcount, hq]
    cases (s.setting n).level <;> cases (s.line n).armed <;> cases (s.line n).entryDue <;> rfl
  obtain ⟨levels, ht⟩ : ∃ levels, exec (.debounceQualified n) s =
      .next ((({ s.setLineState n (lineStep (s.setting n) l true).state with
        pins := { s.pins with lines := levels } } : State).takeLineEvent k
          (({ s.setLineState n (lineStep (s.setting n) l true).state with
            pins := { s.pins with lines := levels } } : State).lineEvent n (lineStep (s.setting n) l true))).settle) :=
    ⟨_, congrArg Host.Outcome.next (if_pos hc)⟩
  rw [ht]
  generalize hu : ({ s.setLineState n (lineStep (s.setting n) l true).state with
    pins := { s.pins with lines := levels } } : State) = u
  have hline (m : LineIndex) : u.line m = if m = n then (lineStep (s.setting n) l true).state else s.line m := by
    rw [← hu]
    exact State.line_setLineState s n m _
  have hsame : u.cs = s.cs ∧ u.st = s.st ∧ u.nl = s.nl ∧ u.sc = s.sc ∧ u.ts = s.ts ∧ u.pbe = s.pbe ∧ u.cu = s.cu ∧
      u.svt = s.svt ∧ u.liu.prescaler = s.liu.prescaler := by
    rw [← hu]
    exact ⟨rfl, rfl, rfl, rfl, rfl, rfl, rfl, rfl, rfl⟩
  clear hu ht
  obtain ⟨hcs, hst, hnl, hsc, hts, hpbe, hcu, hsvt, hpre⟩ := hsame
  have hsource (j : SourceIndex) : u.source j = s.source j := by unfold State.source; rw [hst]
  have hsetting : u.setting n = s.setting n := by unfold State.setting; rw [hcs]
  have hroute : u.route k = s.route k := by unfold State.route; rw [hcs]
  have hevent := State.lineEvent_rise (s := u) (n := n) (l := l) (by rw [hsetting, hline, if_pos rfl]) hq
    (by rw [hsetting]; exact hrise)
  rw [hsetting, show u.route (sourceOf n) = s.route k from hroute, hsource] at hevent
  have hmoved := State.takeLineEvent_moved u k (u.lineEvent n (lineStep (s.setting n) l true))
  have hnotices : (u.takeLineEvent k (u.lineEvent n (lineStep (s.setting n) l true))).nl = u.nl := by
    rw [hevent]
    exact State.request_or_none_nl u k
  have hidle (he : (s.route k).enabled = false) :
      (u.takeLineEvent k (u.lineEvent n (lineStep (s.setting n) l true))).st = u.st := by
    rw [hevent, he]
    rfl
  have hoffer (he : (s.route k).enabled = true) (hi : (s.source k).state = .idle) (ha : l.armed = true)
      (hmode : (s.setting n).level = true ∨ l.entryDue = false) :
      (u.takeLineEvent k (u.lineEvent n (lineStep (s.setting n) l true))).source k = s.newOffer k (s.source k).again ∧
        k ∈ (u.takeLineEvent k (u.lineEvent n (lineStep (s.setting n) l true))).st.ready := by
    have hrequest : u.lineEvent n (lineStep (s.setting n) l true) = some .request := by
      refine hevent.trans (if_pos ⟨he, ha, ?_⟩)
      rcases hmode with hmode | hmode
      · rw [if_pos hmode]
        exact hi
      · split
        · exact hi
        · exact hmode
    rw [hrequest]
    obtain ⟨hrecord, hready⟩ := State.requestEvent_of_idle (s := u) (k := k) (by rw [hsource]; exact hi)
    exact ⟨hrecord.trans ((State.newOffer_congr (hsource k) hroute _).trans (by rw [hsource])), hready⟩
  generalize u.takeLineEvent k (u.lineEvent n (lineStep (s.setting n) l true)) = w at *
  have hlines (m : LineIndex) : w.settle.line m = u.line m := congrArg (fun liu => liu.lines.get m) hmoved.1.liu
  have hrecords (j : SourceIndex) : w.settle.source j = w.source j := rfl
  refine ⟨_, rfl, ?_, fun m hm => ?_, ?_, fun he hi ha hmode => ?_, fun he => ?_, fun j hj => ?_, ?_⟩
  · rw [hlines, hline, if_pos rfl, hstep]
  · rw [hlines, hline, if_neg hm]
  · rw [State.settle_liu, hmoved.1.liu, hpre]
  · exact hoffer he hi ha hmode
  · exact ⟨(hidle he).trans hst, hnotices.trans hnl⟩
  · exact (hmoved.2 j hj).trans (hsource j)
  · exact ⟨hmoved.1.sc.trans hsc, hmoved.1.cs.trans hcs, hmoved.1.ts.trans hts, hmoved.1.pbe.trans hpbe,
      hmoved.1.cu.trans hcu, hmoved.1.svt.trans hsvt, hnotices.trans hnl⟩

/-- Settles O11: each row's guard holds by its hypotheses, and the list it changes splits at the entry named. -/
theorem timersExpireAtTheirLastTick : Obligations.TimersExpireAtTheirLastTick := by
  refine ⟨fun s k before after hp hb hl hw => ?_, fun s n before after hp hl hh hne => ?_, fun s hp hr => ?_⟩
  · have hjoin : s.readyJoined k s.st.ready = before ++ k :: after :=
      hl ▸ joinReady_eq (fun j => (s.route j).cls) k before after hw.1 hw.2
    have hdue : (s.sc.station.takesPart && s.backoffDue k) = true := by simp [hp, State.backoffDue, hb]
    refine congrArg Host.Outcome.next ((if_pos hdue).trans ?_)
    rw [State.backoffExpires_eq, hjoin]
  · refine congrArg Host.Outcome.next ((if_pos hp).trans ?_)
    have hother : ∀ m ∈ before ++ after,
        (if m.ref = n.ref && m.holdOff = some 1 then { m with holdOff := none } else m) = m := fun m hm => by
      simp [hne m hm]
    have hmap : (s.nl.map fun m => if m.ref = n.ref && m.holdOff = some 1 then { m with holdOff := none } else m) =
        before ++ { n with holdOff := none } :: after := by
      rw [hl, List.map_append, List.map_cons,
        List.map_congr_left fun m hm => hother m (List.mem_append_left _ hm), List.map_id',
        List.map_congr_left fun m hm => hother m (List.mem_append_right _ hm), List.map_id']
      simp [hh]
    rw [hmap]
  · exact congrArg Host.Outcome.next (if_pos (by simp [hp, hr]))

end Sys2Proof.Machine
end

section
/-! SUPPORT and OBLIGATIONS. The Peer Bus between frames and its arbitration: the counts of recessive samples, the choice
of the frame to enter, and the contest on the arbitration field. -/

namespace Sys2Proof.Machine

/-! The counts of recessive samples (R3, R4) -/

/-- What INTEGRATION_COMPLETE leaves where the samples bring the count to `count`. -/
theorem exec_integrationComplete {s : State} {samples : List Bool} (hp : s.sc.station.takesPart = true)
    (hs : s.pbe.synchronised = false) :
    exec (.integrationComplete samples) s =
      let count := samples.foldl integrateSample s.pbe.integrationCount
      .next { s with
        pbe := { s.pbe with
          integrationCount := count,
          synchronised := decide (96 ≤ count),
          idleCount := if decide (96 ≤ count) then 11 else s.pbe.idleCount },
        pins := { s.pins with pbdOut := samples.map fun _ => true } } :=
  congrArg Host.Outcome.next (if_pos (by simp [hp, hs]))

theorem exec_busIdle {s : State} {samples : List Bool} (hp : s.sc.station.takesPart = true)
    (hs : s.pbe.synchronised = true) (hr : s.pbe.role = .noRole) :
    exec (.busIdle samples) s = .next { s with
      pbe := { s.pbe with idleCount := samples.foldl idleSample s.pbe.idleCount },
      pins := { s.pins with pbdOut := samples.map fun _ => true } } :=
  congrArg Host.Outcome.next (if_pos (by simp [hp, hs, hr]))

/-- Settles O12: the rows fold the samples into the count, and a run of recessive samples adds its length to it. -/
theorem recessiveSamplesAreCounted : Obligations.RecessiveSamplesAreCounted := by
  refine ⟨fun s n hp hs => ⟨fun hn => ?_, fun hn => ?_, fun hc => ?_⟩, fun s n hp hs hr hc => ⟨?_, fun hlow => ?_⟩⟩
  · rw [exec_integrationComplete hp hs, foldl_integrateSample n _ hn.le, hn, List.map_replicate]
    rfl
  · rw [exec_integrationComplete hp hs, foldl_integrateSample n _ hn.le, List.map_replicate]
    simp only [show ¬ 96 ≤ s.pbe.integrationCount + n by omega, hs, decide_false, Bool.false_eq_true, if_false]
  · have hzero : integrateSample s.pbe.integrationCount false = 0 := if_neg (by simpa [Config.integrationLimit] using hc)
    rw [exec_integrationComplete hp hs, List.foldl_cons, List.foldl_nil, hzero]
    simp only [hs]
    rfl
  · rw [exec_busIdle hp hs hr, foldl_idleSample n _ hc, List.map_replicate]
  · have hzero : idleSample s.pbe.idleCount false = 0 := if_neg (by simpa [Config.idleLimit] using hlow)
    rw [exec_busIdle hp hs hr, List.foldl_cons, List.foldl_nil, hzero]
    rfl

/-! The start opportunity (R5, R6) -/

theorem exec_startOpportunity_chosen {s : State} {h : FrameInHand} (sample : Bool) (hp : s.sc.station.takesPart = true)
    (hs : s.pbe.synchronised = true) (hr : s.pbe.role = .noRole) (hi : s.pbe.idleCount = 11)
    (hc : s.chooseFrame = some h) :
    exec (.startOpportunity sample) s = .next { s with
      ts := { inHand := some h },
      pbe := { s.pbe with role := .contender, current := [false], driving := true },
      pins := { s.pins with pbdOut := [false] } } := by
  have hat : s.atStartOpportunity = true := by simp [State.atStartOpportunity, hp, hs, hr, hi, Config.idleLimit]
  refine congrArg Host.Outcome.next ((if_pos hat).trans ?_)
  rw [hc]
  rfl

theorem exec_startOpportunity_idle {s : State} (sample : Bool) (hp : s.sc.station.takesPart = true)
    (hs : s.pbe.synchronised = true) (hr : s.pbe.role = .noRole) (hi : s.pbe.idleCount = 11)
    (hc : s.chooseFrame = none) :
    exec (.startOpportunity sample) s =
      .next (if sample then s.drove [true] else { s with
        pbe := { s.pbe with role := .receiver, current := [false], driving := false },
        pins := { s.pins with pbdOut := [true] } }) := by
  have hat : s.atStartOpportunity = true := by simp [State.atStartOpportunity, hp, hs, hr, hi, Config.idleLimit]
  refine congrArg Host.Outcome.next ((if_pos hat).trans ?_)
  rw [hc]
  rfl

theorem chooseFrame_join {s : State} (h : s.sc.station = .join) :
    s.chooseFrame = if s.sc.helloPending then some { item := .hello, frame := .hello s.sc.id } else none := by
  simp only [State.chooseFrame, h]

theorem chooseFrame_notice {s : State} {n : Notice} (h : s.sc.station = .run ∨ s.sc.station = .parked)
    (hn : s.oldestNotice = some n) : s.chooseFrame = some { item := .notice n.ref, frame := s.noticeFrame n } := by
  rcases h with h | h <;> simp only [State.chooseFrame, h, hn]

theorem chooseFrame_ready {s : State} (h : s.sc.station = .run ∨ s.sc.station = .parked)
    (hn : s.oldestNotice = none) :
    s.chooseFrame = s.st.ready.head?.map fun k => { item := .offer k, frame := s.offerFrame k } := by
  rcases h with h | h <;> simp only [State.chooseFrame, h, hn]

/-- Settles O13: what is entered is what `chooseFrame` names for the station state and the lists. -/
theorem startOpportunityEntersTheChosenFrame : Obligations.StartOpportunityEntersTheChosenFrame := by
  refine ⟨fun s sample hp hs hr hi => ⟨fun hj hh => ?_, fun hw before n after hl hb hn => ⟨fun h c hbody => ?_,
    fun k hbody => ?_⟩, fun hw hl k rest hready => ⟨fun hm => ?_, fun hm => ?_, fun hm m hrem => ?_⟩⟩,
    fun s hs hr hi hnothing => ?_⟩
  · exact exec_startOpportunity_chosen sample hp hs hr hi (by rw [chooseFrame_join hj, if_pos hh])
  · exact exec_startOpportunity_chosen sample hp hs hr hi
      (by rw [chooseFrame_notice hw (oldestNotice_of_split hl hb hn)]; simp only [Notice.ref, State.noticeFrame, hbody])
  · exact exec_startOpportunity_chosen sample hp hs hr hi
      (by rw [chooseFrame_notice hw (oldestNotice_of_split hl hb hn)]; simp only [Notice.ref, State.noticeFrame, hbody])
  · exact exec_startOpportunity_chosen sample hp hs hr hi
      (by rw [chooseFrame_ready hw (oldestNotice_none hl), hready]; simp only [List.head?_cons, Option.map_some, State.offerFrame, hm])
  · exact exec_startOpportunity_chosen sample hp hs hr hi
      (by rw [chooseFrame_ready hw (oldestNotice_none hl), hready]; simp only [List.head?_cons, Option.map_some, State.offerFrame, hm])
  · exact exec_startOpportunity_chosen sample hp hs hr hi
      (by rw [chooseFrame_ready hw (oldestNotice_none hl), hready]; simp only [List.head?_cons, Option.map_some, State.offerFrame, hm, hrem, Option.getD_some])
  · have hnone : s.chooseFrame = none := by
      rcases hnothing with ⟨hj, hh⟩ | ⟨hw, hl, hready⟩
      · rw [chooseFrame_join hj, hh]
        rfl
      · rw [chooseFrame_ready hw (oldestNotice_none hl), hready]
        rfl
    have hp : s.sc.station.takesPart = true := by
      rcases hnothing with ⟨hj, -⟩ | ⟨hj | hj, -⟩ <;> rw [hj] <;> rfl
    exact ⟨exec_startOpportunity_idle true hp hs hr hi hnone, exec_startOpportunity_idle false hp hs hr hi hnone⟩

/-! Arbitration (R7, R8) -/

/-- A contender's contest on the arbitration field, and the report to its item's owner. -/
theorem exec_arbitrationReport_contender {s : State} {h : FrameInHand} {field : BitVec 10} {won : Bool}
    {driven : List Bool} (hp : s.sc.station.takesPart = true) (hr : s.pbe.role = .contender)
    (hc : s.pbe.current = [false]) (hi : s.ts.inHand = some h)
    (hcontest : contend h.frame.arbitrationBits (fieldBits field) = (won, driven)) :
    exec (.arbitrationReport field) s = .next (({ s with
      ts := { inHand := if won then some h else none },
      pbe := { s.pbe with
        role := if won then .sender else .receiver,
        current := false :: wiredAnd driven (fieldBits field),
        driving := !driven.getLastD true },
      pins := { s.pins with pbdOut := driven } } : State).reportArbitration h.item won).settle := by
  refine congrArg Host.Outcome.next ((if_pos (by simp [hp, hc])).trans ?_)
  simp only [hr, hi, hcontest, State.drove_pbe, hc]
  rfl

theorem State.reportArbitration_won {s : State} {k : SourceIndex} (h : (s.source k).state = .ready) :
    s.reportArbitration (.offer k) true =
      s.putSource k { s.source k with state := .offering } (s.st.ready.filter fun j => j != k) := by
  simp only [State.reportArbitration, State.offerArbitrated, h, if_true]
  rfl

theorem State.reportArbitration_lost_kept {s : State} {k : SourceIndex} (h : (s.source k).state = .ready)
    (hc : (s.source k).cancelPending = false) : s.reportArbitration (.offer k) false = s := by
  simp only [State.reportArbitration, State.offerArbitrated, h, hc, Bool.false_eq_true, if_false]

theorem State.reportArbitration_lost_cancelled {s : State} {k : SourceIndex} (h : (s.source k).state = .ready)
    (hc : (s.source k).cancelPending = true) : s.reportArbitration (.offer k) false = s.enterIdle k := by
  simp only [State.reportArbitration, State.offerArbitrated, h, hc, Bool.false_eq_true, if_false, if_true]

theorem getLastD_append_replicate_true (l : List Bool) (n : Nat) :
    (l ++ List.replicate (n + 1) true).getLastD true = true := by
  simp [List.getLastD_eq_getLast?, List.getLast?_append, List.getLast?_replicate]

/-- Settles O14: the field sampled is the station's own, or first differs from it where the station drove 1. -/
theorem arbitrationGoesToTheLowestField : Obligations.ArbitrationGoesToTheLowestField := by
  refine ⟨fun s i f field hp hr hc hi hf => ?_, fun s i f field same own other hp hr hc hi hown hfield => ?_,
    fun s field hp hr hc => ?_⟩
  · have hexec := exec_arbitrationReport_contender hp hr hc hi
      (show contend f.arbitrationBits (fieldBits field) = _ by rw [hf, contend_same])
    rw [hf, wiredAnd_same, if_pos rfl, ← hi] at hexec
    refine ⟨fun k hk hready => ?_, fun hstands => ?_⟩
    · subst hk
      exact hexec.trans (congrArg (fun u : State => Host.Outcome.next u.settle) (State.reportArbitration_won hready))
    · rw [hexec]
      rcases hstands with h | ⟨r, h⟩ <;> subst h <;> rfl
  · have hexec := exec_arbitrationReport_contender hp hr hc hi
      (show contend f.arbitrationBits (fieldBits field) = _ by rw [hown, hfield, contend_lost])
    rw [hfield, wiredAnd_lost, getLastD_append_replicate_true] at hexec
    rw [hfield]
    refine ⟨fun hstands => ?_, fun k hk hready hcancel => ?_⟩
    · rw [hexec]
      rcases hstands with h | ⟨r, h⟩ | ⟨k, h, hready, hcancel⟩ <;> subst h
      · rfl
      · rfl
      · exact congrArg (fun u : State => Host.Outcome.next u.settle) (State.reportArbitration_lost_kept hready hcancel)
    · subst hk
      exact hexec.trans
        (congrArg (fun u : State => Host.Outcome.next u.settle) (State.reportArbitration_lost_cancelled hready hcancel))
  · refine congrArg Host.Outcome.next ((if_pos (by simp [hp, hc])).trans ?_)
    simp only [hr, State.drove_pbe, hc]
    rfl

end Sys2Proof.Machine
end

section
/-! SUPPORT and OBLIGATIONS. Frames as bits: a receiver that samples what a sender drives reads the frame's content
again, and what the samples from bit 11 on are to a sender and to a receiver. -/

namespace Sys2Proof.Machine

/-! Numbers at positions of a bit string -/

theorem sliceNat_append_right {front bits : List Bool} {p w : Nat} (h : front.length ≤ p) :
    sliceNat (front ++ bits) p w = sliceNat bits (p - front.length) w := by
  unfold sliceNat slice
  rw [List.drop_append, List.drop_eq_nil_of_le h, List.nil_append]

theorem sliceNat_head {front bits : List Bool} {w : Nat} (h : front.length = w) :
    sliceNat (front ++ bits) 0 w = bitsNat front := by
  unfold sliceNat slice
  rw [List.drop_zero, List.take_left' h]

/-- The number of a field that begins at position p. -/
theorem sliceNat_natBits_at {w n p : Nat} {front bits : List Bool} (h : front.length = p) :
    sliceNat (front ++ (natBits w n ++ bits)) p w = n % 2 ^ w := by
  rw [sliceNat_append_right h.le, h, Nat.sub_self, sliceNat_head (natBits_length w n), bitsNat_natBits]

theorem sliceNat_natBits_head (w n : Nat) (bits : List Bool) : sliceNat (natBits w n ++ bits) 0 w = n % 2 ^ w :=
  sliceNat_natBits_at (front := []) rfl

/-- A field that ends before position p is skipped. -/
theorem sliceNat_natBits_skip {v n p w : Nat} {bits : List Bool} (h : v ≤ p) :
    sliceNat (natBits v n ++ bits) p w = sliceNat bits (p - v) w := by
  rw [sliceNat_append_right (by rwa [natBits_length]), natBits_length]

theorem sliceNat_fieldBits_head {w : Nat} (x : BitVec w) (bits : List Bool) :
    sliceNat (fieldBits x ++ bits) 0 w = x.toNat :=
  (sliceNat_natBits_head w x.toNat bits).trans (Nat.mod_eq_of_lt x.isLt)

theorem sliceNat_fieldBits_skip {v p w : Nat} {x : BitVec v} {bits : List Bool} (h : v ≤ p) :
    sliceNat (fieldBits x ++ bits) p w = sliceNat bits (p - v) w := sliceNat_natBits_skip h

theorem getD_natBits_skip {v n p : Nat} {bits : List Bool} {d : Bool} (h : v ≤ p) :
    (natBits v n ++ bits).getD p d = bits.getD (p - v) d := by
  rw [List.getD_append_right _ _ _ _ (by rwa [natBits_length]), natBits_length]

theorem getD_fieldBits_skip {v p : Nat} {x : BitVec v} {bits : List Bool} {d : Bool} (h : v ≤ p) :
    (fieldBits x ++ bits).getD p d = bits.getD (p - v) d := getD_natBits_skip h

/-! What a frame's bits are -/

theorem Frame.arbitrationBits_length (f : Frame) : f.arbitrationBits.length = 10 := by
  simp [Frame.arbitrationBits, natBits_length, fieldBits_length]

theorem Frame.bodyBits_length (f : Frame) : f.bodyBits.length = f.kind.bodyLength := by
  cases f <;> simp [Frame.bodyBits, natBits_length, fieldBits_length, Frame.kind, FrameKind.bodyLength]

/-- The bits up to the check field's end. -/
def Frame.checkBits (f : Frame) : List Bool := [false] ++ f.checkedBits ++ fieldBits (crc f.checkedBits)

theorem Frame.sentBits_eq (f : Frame) : f.sentBits = f.checkBits ++ [false] := rfl

theorem Frame.checkedBits_length (f : Frame) : f.checkedBits.length = 13 + f.kind.bodyLength := by
  simp only [Frame.checkedBits, List.length_append, Frame.arbitrationBits_length, natBits_length, Frame.bodyBits_length]

theorem Frame.checkBits_length (f : Frame) : f.checkBits.length = f.kind.commitAt := by
  simp only [Frame.checkBits, List.length_append, Frame.checkedBits_length, fieldBits_length, List.length_singleton,
    FrameKind.commitAt]
  omega

theorem commitAt_ge (k : FrameKind) : 22 ≤ k.commitAt := Nat.le_add_right 22 _

section
variable (f : Frame) (bits : List Bool)

theorem Frame.checkBits_append : f.checkBits ++ bits =
    natBits 1 0 ++ (natBits 2 f.rank ++ (fieldBits f.cls ++ (fieldBits f.sender ++
      (natBits 3 f.kindCode ++ (f.bodyBits ++ (fieldBits (crc f.checkedBits) ++ bits)))))) := by
  simp only [Frame.checkBits, Frame.checkedBits, Frame.arbitrationBits, List.append_assoc]
  rfl

theorem sliceNat_rank : sliceNat (f.checkBits ++ bits) 1 2 = f.rank := by
  rw [Frame.checkBits_append, sliceNat_natBits_skip (by decide), sliceNat_natBits_head]
  cases f <;> rfl

theorem sliceNat_cls : sliceNat (f.checkBits ++ bits) 3 4 = f.cls.toNat := by
  rw [Frame.checkBits_append, sliceNat_natBits_skip (by decide), sliceNat_natBits_skip (by decide),
    sliceNat_fieldBits_head]

theorem sliceNat_sender : sliceNat (f.checkBits ++ bits) 7 4 = f.sender.toNat := by
  rw [Frame.checkBits_append, sliceNat_natBits_skip (by decide), sliceNat_natBits_skip (by decide),
    sliceNat_fieldBits_skip (by decide), sliceNat_fieldBits_head]

theorem sampledKind_checkBits : sampledKind (f.checkBits ++ bits) = f.kind := by
  rw [sampledKind, Frame.checkBits_append, sliceNat_natBits_skip (by decide), sliceNat_natBits_skip (by decide),
    sliceNat_fieldBits_skip (by decide), sliceNat_fieldBits_skip (by decide), sliceNat_natBits_head]
  cases f <;> rfl

/-- The check field follows the bits it covers (R187). -/
theorem check_agrees : (crc (slice (f.checkBits ++ bits) 1 (f.kind.checkAt - 1))).toNat =
    sliceNat (f.checkBits ++ bits) f.kind.checkAt 8 := by
  have hcovered : slice (f.checkBits ++ bits) 1 (f.kind.checkAt - 1) = f.checkedBits := by
    have hlen : f.checkedBits.length = f.kind.checkAt - 1 := by
      rw [Frame.checkedBits_length, FrameKind.checkAt]
      omega
    simp only [Frame.checkBits, List.append_assoc]
    exact List.take_left' hlen
  have hfield : sliceNat (f.checkBits ++ bits) f.kind.checkAt 8 = (crc f.checkedBits).toNat := by
    simp only [Frame.checkBits, List.append_assoc, fieldBits]
    rw [← List.append_assoc, sliceNat_natBits_at, Nat.mod_eq_of_lt (crc f.checkedBits).isLt]
    simp only [List.length_append, List.length_singleton, Frame.checkedBits_length, FrameKind.checkAt]
    omega
  rw [hcovered, hfield]

theorem getD_commitAt (b d : Bool) (rest : List Bool) : (f.checkBits ++ b :: rest).getD f.kind.commitAt d = b := by
  rw [List.getD_append_right _ _ _ _ f.checkBits_length.le, Frame.checkBits_length, Nat.sub_self]
  rfl

theorem getD_errAt (b err d : Bool) : (f.checkBits ++ [b, err]).getD f.kind.errAt d = err := by
  have hat : f.kind.errAt - f.kind.commitAt = 1 := by simp only [FrameKind.errAt, FrameKind.commitAt]; omega
  rw [List.getD_append_right _ _ _ _ (by rw [Frame.checkBits_length]; simp only [FrameKind.errAt, FrameKind.commitAt]; omega),
    Frame.checkBits_length, hat]
  rfl

end

/-! A receiver reads what was sent (R15, R185, R186) -/

/-- Reading back each field of the body gives the frame again. -/
theorem parseFrame_checkBits (f : Frame) (bits : List Bool) : parseFrame (f.checkBits ++ bits) = some f := by
  have index (k : SourceIndex) : k.val % 2 ^ 5 = k.val := Nat.mod_eq_of_lt (by omega)
  simp only [parseFrame, sampledKind_checkBits, sliceNat_cls, sliceNat_sender]
  cases f
  all_goals simp only [Frame.kind, Frame.cls, Frame.sender, Frame.checkBits_append, Frame.bodyBits, List.append_assoc,
    sliceNat_natBits_skip, sliceNat_fieldBits_skip, getD_natBits_skip, getD_fieldBits_skip, sliceNat_natBits_head,
    sliceNat_fieldBits_head, Nat.reduceLeDiff, Nat.reduceSub, index, BitVec.ofNat_toNat, BitVec.setWidth_eq]
  case done o => cases o <;> simp [outcomeBit]
  all_goals simp

/-- The source index of a frame is in range. -/
theorem sliceNat_source_lt {f : Frame} {p : Nat} (h : f.kind.sourceAt = some p) (bits : List Bool) :
    sliceNat (f.checkBits ++ bits) p 5 < 24 := by
  have index (k : SourceIndex) : k.val % 2 ^ 5 < 24 := by omega
  cases f <;> cases h
  all_goals simp only [Frame.checkBits_append, Frame.bodyBits, List.append_assoc, sliceNat_natBits_skip,
    sliceNat_fieldBits_skip, sliceNat_natBits_head, Nat.reduceLeDiff, Nat.reduceSub, index]

theorem sliceNat_mask_ne_zero {f : Frame} (hf : f.namesSomeone) (h : f.kind = .pool ∨ f.kind = .spread)
    (bits : List Bool) : sliceNat (f.checkBits ++ bits) 14 16 ≠ 0 := by
  have ne_zero (m : StationMask) (hm : m ≠ 0) : m.toNat ≠ 0 := fun hz => hm (BitVec.eq_of_toNat_eq hz)
  cases f <;> simp only [Frame.kind, reduceCtorEq, or_self] at h
  all_goals
    simp only [Frame.checkBits_append, Frame.bodyBits, List.append_assoc, sliceNat_natBits_skip,
      sliceNat_fieldBits_skip, sliceNat_fieldBits_head, Nat.reduceLeDiff, Nat.reduceSub]
    exact ne_zero _ hf

/-- The checks pass on the bits of a frame (R15). -/
theorem checkFails_checkBits {f : Frame} (hf : f.namesSomeone) (bits : List Bool) :
    checkFails (f.checkBits ++ bits) = false := by
  have hsource : (match f.kind.sourceAt with
      | some p => decide (23 < sliceNat (f.checkBits ++ bits) p 5)
      | none => false) = false := by
    split
    next p hp => exact decide_eq_false (by have := sliceNat_source_lt hp bits; omega)
    next => rfl
  have hmask : ((f.kind == .pool || f.kind == .spread) && sliceNat (f.checkBits ++ bits) 14 16 == 0) = false := by
    cases hk : (f.kind == .pool || f.kind == .spread)
    · rfl
    · simpa using sliceNat_mask_ne_zero hf (by simpa using hk) bits
  have hclass : (f.kind == .hello && f.cls.toNat != 0) = false := by cases f <;> rfl
  have hrank : (f.rank == 3 || f.kind == .invalid || f.kind.rank != some f.rank) = false := by cases f <;> rfl
  simp only [checkFails, sampledKind_checkBits, sliceNat_cls, sliceNat_rank, check_agrees, hmask, hclass, bne_self_eq_false,
    Bool.false_or, Bool.or_false]
  simp only [Bool.or_eq_false_iff] at hrank ⊢
  exact ⟨hrank, hsource⟩

/-- A listener reads the content of the frame that was sent. -/
theorem readFrame_checkBits {f : Frame} (hf : f.namesSomeone) (bits : List Bool) :
    readFrame (f.checkBits ++ bits) = some f := by
  rw [readFrame, checkFails_checkBits hf, parseFrame_checkBits]
  rfl

/-! What the span is to a receiver (R9, R13, R15, R16) -/

theorem spanEnd_receiver {s : State} {samples : List Bool} (hp : s.sc.station.takesPart = true)
    (hl : s.pbe.current.length = 11) (hr : s.pbe.role = .receiver) :
    s.spanEnd samples = receiverSpan (s.pbe.current ++ samples) := by
  simp only [State.spanEnd, State.afterArbitration, hp, hl, hr]
  rfl

theorem receiverSpan_commit {bits : List Bool} (h : bits.length = (sampledKind bits).commitAt + 1)
    (hc : bits.getD (sampledKind bits).commitAt false = true) : receiverSpan bits = .abandoned := by
  simp only [receiverSpan, h, hc, if_true]

/-- At the ERR bit of a frame with COMMIT 0. -/
theorem receiverSpan_err {bits : List Bool} (h : bits.length = (sampledKind bits).errAt + 1)
    (hc : bits.getD (sampledKind bits).commitAt false = false) :
    receiverSpan bits =
      if !bits.getD (sampledKind bits).errAt true then .discarded
      else if sampledKind bits = .invalid then .invalidEnd
      else match readFrame bits with
        | some f => .good f
        | none => .discarded := by
  have hne : ¬ bits.length = (sampledKind bits).commitAt + 1 := by
    simp only [FrameKind.errAt] at h
    simp only [FrameKind.commitAt]
    omega
  exact (if_neg hne).trans ((if_pos h).trans (if_neg (by rw [hc]; exact Bool.false_ne_true)))

/-- Settles O15: every field is read back from the bits that hold it (`readFrame_checkBits`), and the last bits
decide. -/
theorem receiverReadsWhatTheSenderDrove : Obligations.ReceiverReadsWhatTheSenderDrove := by
  intro s f hf hp hr hcurrent
  have hlong : 11 ≤ f.checkBits.length := by rw [Frame.checkBits_length]; exact le_trans (by decide) (commitAt_ge _)
  have htake : f.sentBits.take 11 = f.checkBits.take 11 := by
    rw [Frame.sentBits_eq, List.take_append_of_le_length hlong]
  have hdrop : f.sentBits.drop 11 = f.checkBits.drop 11 ++ [false] := by
    rw [Frame.sentBits_eq, List.drop_append_of_le_length hlong]
  have hlen : s.pbe.current.length = 11 := by rw [hcurrent, htake, List.length_take]; omega
  have hwhole (rest : List Bool) : s.spanEnd (f.checkBits.drop 11 ++ rest) = receiverSpan (f.checkBits ++ rest) := by
    rw [spanEnd_receiver hp hlen hr, hcurrent, htake, ← List.append_assoc, List.take_append_drop]
  have hread (err : Bool) : receiverSpan (f.checkBits ++ [false, err]) = if err then .good f else .discarded := by
    have hkind := sampledKind_checkBits f [false, err]
    rw [receiverSpan_err (by simp [hkind, Frame.checkBits_length, FrameKind.errAt, FrameKind.commitAt]; omega)
      (by rw [hkind, getD_commitAt]), hkind, getD_errAt, readFrame_checkBits hf]
    cases err
    · rfl
    · exact if_neg (show f.kind ≠ .invalid by cases f <;> exact nofun)
  have herr (err : Bool) : s.spanEnd (f.sentBits.drop 11 ++ [err]) = if err then .good f else .discarded := by
    rw [hdrop, List.append_assoc]
    exact (hwhole [false, err]).trans (hread err)
  refine ⟨herr true, herr false, ?_⟩
  have hkind := sampledKind_checkBits f [true]
  rw [hdrop, List.dropLast_concat, hwhole,
    receiverSpan_commit (by rw [hkind, List.length_append, Frame.checkBits_length]; rfl) (by rw [hkind, getD_commitAt])]

/-! What the span is to a sender (R11, R16) -/

theorem spanEnd_sender {s : State} {h : FrameInHand} {samples : List Bool} (hp : s.sc.station.takesPart = true)
    (hl : s.pbe.current.length = 11) (hr : s.pbe.role = .sender) (hi : s.ts.inHand = some h) :
    s.spanEnd samples = senderSpan h.frame samples := by
  simp only [State.spanEnd, State.afterArbitration, hp, hl, hr, hi]
  rfl

/-- Settles O16: a sender's span is its contest with its own bits, a receiver's the checks on the bits sampled. -/
theorem spansAreReadByRole : Obligations.SpansAreReadByRole := by
  refine ⟨fun s i f hp hr hl hi => ?_, fun s span err hp hr hl => ?_⟩
  · have herr (err : Bool) : s.spanEnd (f.sentBits.drop 11 ++ [err]) = if err then .good f else .discarded := by
      rw [spanEnd_sender hp hl hr hi, senderSpan, Frame.spanBits, contend_same_append]
      simp
    refine ⟨herr true, herr false, fun same own other hown => ?_⟩
    rw [spanEnd_sender hp hl hr hi, senderSpan, Frame.spanBits, hown, contend_lost]
    rfl
  · intro bits hkind hlen hcommit hcheck
    have hcommit' : bits.getD (sampledKind bits).commitAt false = false := by
      rw [← hcommit]
      have : (sampledKind bits).commitAt < bits.length := by rw [hlen, FrameKind.errAt, FrameKind.commitAt]; omega
      simp [List.getD_eq_getElem?_getD, List.getElem?_eq_getElem this]
    have hassoc : s.pbe.current ++ (span ++ [err]) = bits := (List.append_assoc _ _ _).symm
    refine ⟨?_, ?_⟩
    · have hread : readFrame bits = none := by rw [readFrame, hcheck]; rfl
      rw [spanEnd_receiver hp hl hr, hassoc, receiverSpan_err hlen hcommit', hread, if_neg hkind]
      exact ite_self _
    · have hdrive : s.spanDrive (span ++ [err]) = List.replicate ((span ++ [err]).length - 1) true ++
          [!((s.pbe.current ++ (span ++ [err])).length == (sampledKind (s.pbe.current ++ (span ++ [err]))).errAt + 1 &&
            checkFails (s.pbe.current ++ (span ++ [err])))] := by
        simp only [State.spanDrive, hr]
      rw [hdrive, hassoc, hlen, hcheck, beq_self_eq_true, List.length_append]
      rfl

end Sys2Proof.Machine
end

section
/-! SUPPORT and OBLIGATIONS. The ends of a frame without an outcome, by ERR, and at its last attempt. -/

namespace Sys2Proof.Machine

/-! Frames that end with no outcome (R9, R11, R13) -/

/-- Settles O17: each row does what it does at the span's end of its name. -/
theorem framesWithoutOutcome : Obligations.FramesWithoutOutcome := by
  refine ⟨fun s samples h => congrArg Host.Outcome.next ?_, fun s samples => ⟨fun h => congrArg Host.Outcome.next ?_,
    fun h => congrArg Host.Outcome.next ?_⟩⟩
  · rw [h]
    exact halted_eq s _
  · rw [h]
    exact betweenFrames_eq s _
  · rw [h]
    exact betweenFrames_eq s _

/-! The owner takes a discard (R16, R33, R68, R71, R142, R143) -/

theorem exec_discarded {s : State} {samples : List Bool} (h : s.spanEnd samples = .discarded) :
    exec (.frameDiscardedByErr samples) s = .next ((match s.pbe.role, s.ts.inHand with
      | .sender, some f => (s.drove (s.spanDrive samples)).reportDiscard f
      | _, _ => s.drove (s.spanDrive samples)).endFrame.settle) := by
  refine congrArg Host.Outcome.next ?_
  rw [h]
  rfl

theorem exec_discarded_receiver {s : State} {samples : List Bool} (h : s.spanEnd samples = .discarded)
    (hr : s.pbe.role = .receiver) :
    exec (.frameDiscardedByErr samples) s = .next (s.betweenFrames (s.spanDrive samples)).settle := by
  rw [exec_discarded h, hr]
  rfl

theorem exec_discarded_sender {s : State} {samples : List Bool} {f : FrameInHand} (h : s.spanEnd samples = .discarded)
    (hr : s.pbe.role = .sender) (hi : s.ts.inHand = some f) :
    exec (.frameDiscardedByErr samples) s =
      .next ((s.drove (s.spanDrive samples)).reportDiscard f).endFrame.settle := by
  rw [exec_discarded h, hr, hi]

theorem State.setSource_source (s : State) (k : SourceIndex) : s.setSource k (s.source k) = s := by
  unfold State.setSource State.source
  rw [set_get_self]

theorem State.roundUnsuccessful_drove (s : State) (driven : List Bool) (k : SourceIndex) :
    (s.drove driven).roundUnsuccessful k = (s.roundUnsuccessful k).drove driven := by
  unfold State.roundUnsuccessful
  rw [apply_ite (State.drove · driven)]
  rfl

/-- Source k after a SPREAD round that these stations accepted: they have left its remaining mask (R71). -/
def State.roundLeft (s : State) (k : SourceIndex) (accepted : StationMask) : State :=
  s.setSource k { s.source k with remaining := (s.source k).remaining.map fun m => m &&& ~~~accepted }

theorem State.spreadRoundEnds_of_offering {s : State} {k : SourceIndex} (ho : (s.source k).state = .offering)
    (accepted : StationMask) : s.spreadRoundEnds k accepted =
      if (s.source k).cancelPending then (s.roundLeft k accepted).enterIdle k
      else if ((s.source k).remaining.map fun m => m &&& ~~~accepted).getD 0 == 0 then (s.roundLeft k accepted).enterIdle k
      else if accepted != 0 then (s.roundLeft k accepted).enterBackoff k (s.source k).retry
      else (s.roundLeft k accepted).roundUnsuccessful k := by
  simp only [State.spreadRoundEnds, State.roundLeft, ho]

theorem stationMask_and_not_zero (m : StationMask) : m &&& ~~~(0 : StationMask) = m :=
  (congrArg (m &&& ·) BitVec.not_zero).trans BitVec.and_allOnes

/-- A SPREAD round that no station accepted leaves the remaining mask. -/
theorem State.roundLeft_zero (s : State) (k : SourceIndex) : s.roundLeft k 0 = s := by
  rw [State.roundLeft, show (fun m : StationMask => m &&& ~~~(0 : StationMask)) = id from
    funext stationMask_and_not_zero, Option.map_id]
  exact State.setSource_source s k

/-- A round in which no station took the offer, the remaining mask of a SPREAD source being nonempty. -/
theorem State.reportDiscard_offer {s : State} {f : Frame} {k : SourceIndex} (ho : (s.source k).state = .offering)
    (hm : f.kind ≠ .spread ∨ ∃ m, (s.source k).remaining = some m ∧ m ≠ 0) :
    s.reportDiscard { item := .offer k, frame := f } =
      if (s.source k).cancelPending then s.enterIdle k else s.roundUnsuccessful k := by
  by_cases hk : f.kind = .spread
  · obtain ⟨m, hsome, hne⟩ := hm.resolve_left (not_not_intro hk)
    have hleft : (((s.source k).remaining.map fun m => m &&& ~~~(0 : StationMask)).getD 0 == 0) = false := by
      rw [hsome, Option.map_some, Option.getD_some, stationMask_and_not_zero]
      exact beq_eq_false_iff_ne.mpr hne
    have hspread : s.reportDiscard { item := .offer k, frame := f } = s.spreadRoundEnds k 0 := by
      simp only [State.reportDiscard, hk]
    rw [hspread, State.spreadRoundEnds_of_offering ho, hleft, State.roundLeft_zero]
    rfl
  · have hplain : s.reportDiscard { item := .offer k, frame := f } = s.offerNotPlaced k := by
      unfold State.reportDiscard
      split
      case h_1 heq => cases heq
      case h_2 heq => cases heq
      case h_4 heq => cases heq
      case h_3 heq =>
        cases heq
        split
        next heq => exact absurd heq hk
        next => rfl
    simp only [hplain, State.offerNotPlaced, ho]

/-- DROP is latched and the notices of the list are these (R143). -/
def State.noticeDropped (s : State) (nl : List Notice) : State :=
  { s with nl := nl, lp := { s.lp with alerts := { s.lp.alerts with drop := true } } }

theorem State.dropNotice_of_split {s : State} {n : Notice} {before after : List Notice} (hs : s.nl = before ++ n :: after)
    (h : ∀ m ∈ before ++ after, m.ref ≠ n.ref) : 
    s.dropNotice n.ref = (s.noticeDropped (before ++ after)).ownerTakesEnd n.ref .dropped := by
  rw [State.dropNotice, removeNotice_of_split hs h]
  rfl

theorem State.ownerTakesEnd_done {s : State} {h : Handle} {o : HeldOffer} {c : DoneOutcome} (w : WithdrawSent)
    (he : s.svt.entry h = .occupied o (.closing c)) :
    s.ownerTakesEnd (.done h) w = { s with svt := s.svt.setEntry h .free } := by
  simp only [State.ownerTakesEnd, State.freeClosing, he]

theorem State.ownerTakesEnd_withdraw {s : State} {k : SourceIndex} {x : StationId} {w' : WithdrawSent} (w : WithdrawSent)
    (hk : (s.source k).state = .withdrawing x w') :
    s.ownerTakesEnd (.withdraw k) w = s.setSource k { s.source k with state := .withdrawing x w } := by
  simp only [State.ownerTakesEnd, State.setWithdrawSent, hk]

theorem State.ownerTakesEnd_nl (s : State) (r : NoticeRef) (w : WithdrawSent) : (s.ownerTakesEnd r w).nl = s.nl := by
  cases r with
  | done h =>
    rw [State.ownerTakesEnd, State.freeClosing_eq]
  | withdraw k => exact State.setWithdrawSent_nl s k w

theorem State.ownerTakesEnd_lp (s : State) (r : NoticeRef) (w : WithdrawSent) : (s.ownerTakesEnd r w).lp = s.lp := by
  cases r with
  | done h =>
    rw [State.ownerTakesEnd, State.freeClosing_eq]
  | withdraw k => exact (State.setWithdrawSent_moved s k w).1.lp

/-- A discard at the sender of a notice is an unsuccessful attempt (R142). -/
theorem State.noticeUnsuccessful_of_split {s : State} {n : Notice} {before after : List Notice}
    (hs : s.nl = before ++ n :: after) (h : ∀ m ∈ before ++ after, m.ref ≠ n.ref) (hn : n.attempts < 15) :
    s.noticeUnsuccessful n.ref = { s with nl := before ++ after ++
      [{ n with attempts := n.attempts + 1, holdOff := some s.cs.retryDelay.toNat }] } := by
  have hlimit : ¬ Config.attemptLimit ≤ n.attempts + 1 := by simp only [Config.attemptLimit]; omega
  simp only [State.noticeUnsuccessful, notice?_of_split hs h, hlimit, if_false, removeNotice_of_split hs h]
  rfl

theorem State.noticeUnsuccessful_at_limit {s : State} {n : Notice} {before after : List Notice}
    (hs : s.nl = before ++ n :: after) (h : ∀ m ∈ before ++ after, m.ref ≠ n.ref) (hn : 15 ≤ n.attempts) :
    s.noticeUnsuccessful n.ref = s.dropNotice n.ref := by
  have hlimit : Config.attemptLimit ≤ n.attempts + 1 := by simp only [Config.attemptLimit]; omega
  simp only [State.noticeUnsuccessful, notice?_of_split hs h, hlimit, if_true]

theorem State.roundUnsuccessful_fails {s : State} {k : SourceIndex} (hl : s.cs.declineLimit ≠ 0)
    (hr : (s.source k).retry.toNat + 1 = s.cs.declineLimit.toNat) :
    s.roundUnsuccessful k =
      s.putSource k { s.source k with state := .failed, retry := s.cs.declineLimit, again := false } s.st.ready :=
  if_pos ((State.roundFails_iff s k).mpr ⟨hl, hr⟩)

theorem State.roundUnsuccessful_backs_off {s : State} {k : SourceIndex}
    (h : s.cs.declineLimit = 0 ∨ (s.source k).retry.toNat + 1 ≠ s.cs.declineLimit.toNat) :
    s.roundUnsuccessful k = s.putSource k { s.source k with
      state := .backoff s.cs.retryDelay.toNat,
      retry := BitVec.ofNat 8 (min ((s.source k).retry.toNat + 1) 255) } s.st.ready := by
  have hfails : ¬ s.roundFails k = true := fun hf => by
    obtain ⟨hl, hr⟩ := (State.roundFails_iff s k).mp hf
    exact h.elim hl (· hr)
  rw [State.roundUnsuccessful, if_neg hfails, nextRetry_eq]
  rfl

theorem exec_discarded_offer {s : State} {samples : List Bool} {f : Frame} {k : SourceIndex}
    (h : s.spanEnd samples = .discarded) (hr : s.pbe.role = .sender)
    (hi : s.ts.inHand = some { item := .offer k, frame := f }) (ho : (s.source k).state = .offering)
    (hm : f.kind ≠ .spread ∨ ∃ m, (s.source k).remaining = some m ∧ m ≠ 0) :
    exec (.frameDiscardedByErr samples) s =
      .next ((if (s.source k).cancelPending then s.enterIdle k else s.roundUnsuccessful k).betweenFrames
        (s.spanDrive samples)).settle := by
  rw [exec_discarded_sender h hr hi, State.reportDiscard_offer (s := s.drove (s.spanDrive samples)) ho hm,
    State.enterIdle_drove, State.roundUnsuccessful_drove, ← apply_ite (State.drove · (s.spanDrive samples))]
  rfl

/-- Settles O18: the discard reaches the owner of the frame in hand by its item, and the frame then ends. -/
theorem discardByErrReachesTheOwner : Obligations.DiscardByErrReachesTheOwner := by
  refine ⟨fun s samples hd => ⟨exec_discarded_receiver hd, fun f hr hi => exec_discarded_sender hd hr hi⟩,
    fun s samples f n before after hd hr hi hs hm => ⟨fun hn => ?_, fun hn => ?_⟩,
    fun s samples f k hd hr hi ho hm => ?_⟩
  · rw [exec_discarded_sender hd hr hi]
    exact congrArg (fun u : State => Host.Outcome.next u.endFrame.settle)
      (State.noticeUnsuccessful_of_split (s := s.drove (s.spanDrive samples)) hs hm hn)
  · have hdrop := (State.noticeUnsuccessful_at_limit (s := s.drove (s.spanDrive samples)) hs hm hn).trans
      (State.dropNotice_of_split (s := s.drove (s.spanDrive samples)) hs hm)
    refine ⟨_, (exec_discarded_sender hd hr hi).trans
      (congrArg (fun u : State => Host.Outcome.next u.endFrame.settle) hdrop), ?_, ?_, fun h o c hn he => ?_,
      fun k x w hn hk => ?_⟩
    · exact State.ownerTakesEnd_nl _ _ _
    · exact congrArg (·.alerts.drop) (State.ownerTakesEnd_lp _ _ _)
    · rw [hn, State.ownerTakesEnd_done (s := (s.drove (s.spanDrive samples)).noticeDropped (before ++ after)) _ he]
      exact ⟨rfl, rfl⟩
    · rw [hn, State.ownerTakesEnd_withdraw (s := (s.drove (s.spanDrive samples)).noticeDropped (before ++ after)) _ hk]
      exact ⟨(State.source_setSource _ k k _).trans (if_pos rfl), rfl⟩
  · have hexec := exec_discarded_offer hd hr hi ho hm
    intro r limit ends
    refine ⟨fun hc => ?_, fun hc hl hfull => ?_, fun hc hroom => ?_⟩
    · rw [hexec, if_pos hc]
    · rw [hexec, if_neg (Bool.eq_false_iff.mp hc), State.roundUnsuccessful_fails hl hfull]
    · rw [hexec, if_neg (Bool.eq_false_iff.mp hc), State.roundUnsuccessful_backs_off hroom]

/-! The last attempt (R79, R143), and the end of a frame whose owner has had its outcome -/

theorem State.sentItem_of_inHand {s : State} {h : FrameInHand} (hr : s.pbe.role = .sender) (hi : s.ts.inHand = some h) :
    s.sentItem = some h.item := by
  simp [State.sentItem, hr, hi]

theorem State.foreignTwin_sender {s : State} (hr : s.pbe.role = .sender) (f : Frame) : s.foreignTwin f = false := by
  simp [State.foreignTwin, hr]

theorem State.markReported_eq {s : State} {h : FrameInHand} (hi : s.ts.inHand = some h) :
    s.markReported = { s with ts := { inHand := some { h with item := .reported } } } := by
  rw [State.markReported, hi]
  rfl

theorem exec_noticeDrop {s : State} {n : Notice} {f : Frame} {before after : List Notice}
    (hp : s.sc.station.takesPart = true) (hr : s.pbe.role = .sender)
    (hi : s.ts.inHand = some { item := .notice n.ref, frame := f }) (hs : s.nl = before ++ n :: after)
    (hm : ∀ m ∈ before ++ after, m.ref ≠ n.ref) (hn : n.attempts = 15) :
    exec (.noticeDrop n.ref) s =
      .next ((s.noticeDropped (before ++ after)).ownerTakesEnd n.ref .dropped).markReported.settle := by
  show execNoticeDrop n.ref s = _
  simp only [execNoticeDrop, State.sentItem_of_inHand hr hi, notice?_of_split hs hm]
  rw [if_pos (by simp [hp, hn, Config.attemptLimit]), State.dropNotice_of_split hs hm]

/-- What the completion of a DONE does at a station that is no twin of its sender. -/
theorem exec_done {s : State} {samples : List Bool} (ack : Bool) {x a : StationId} {c : ServiceClass} {k : SourceIndex}
    {g : Generation} {o : DoneOutcome} (hg : s.spanEnd samples = .good (.done x c a k g o))
    (ht : s.foreignTwin (.done x c a k g o) = false) :
    exec (.doneCompletion samples ack) s =
      let told := (s.drove (s.spanDrive samples ++ [!(a == s.sc.id)])).senderTold (a == s.sc.id || !ack)
      .next (if a == s.sc.id then told.doneDelivered x k g else told).endFrame.settle := by
  show execDoneCompletion samples ack s = _
  simp only [execDoneCompletion, hg, ht]
  rfl

theorem exec_withdraw {s : State} {samples : List Bool} (ack : Bool) {x a : StationId} {c : ServiceClass}
    {k : SourceIndex} {g : Generation} (hg : s.spanEnd samples = .good (.withdraw x c a k g))
    (ht : s.foreignTwin (.withdraw x c a k g) = false) :
    exec (.withdrawCompletion samples ack) s =
      let told := (s.drove (s.spanDrive samples ++ [!(a == s.sc.id)])).senderTold (a == s.sc.id || !ack)
      .next (if a == s.sc.id then told.withdrawDelivered x k g else told).endFrame.settle := by
  show execWithdrawCompletion samples ack s = _
  simp only [execWithdrawCompletion, hg, ht]
  rfl

theorem State.senderTold_of_inHand {s : State} {h : FrameInHand} (hr : s.pbe.role = .sender)
    (hi : s.ts.inHand = some h) (acknowledged : Bool) : s.senderTold acknowledged = s.reportNotice h.item acknowledged := by
  rw [State.senderTold, State.sentItem_of_inHand hr hi]

theorem State.senderTold_receiver {s : State} (hr : s.pbe.role = .receiver) (acknowledged : Bool) :
    s.senderTold acknowledged = s := by
  simp [State.senderTold, State.sentItem, hr]

/-- A DONE sent to another station tells the sender's Notice List alone. -/
theorem exec_done_sent {s : State} {samples : List Bool} (ack : Bool) {h : FrameInHand} {x a : StationId}
    {c : ServiceClass} {k : SourceIndex} {g : Generation} {o : DoneOutcome} (hr : s.pbe.role = .sender)
    (hi : s.ts.inHand = some h) (hg : s.spanEnd samples = .good (.done x c a k g o)) (ha : a ≠ s.sc.id) :
    exec (.doneCompletion samples ack) s =
      .next ((s.drove (s.spanDrive samples ++ [true])).reportNotice h.item (!ack)).endFrame.settle := by
  rw [exec_done ack hg (State.foreignTwin_sender hr _), beq_eq_false_iff_ne.mpr ha]
  exact congrArg (fun u : State => Host.Outcome.next u.endFrame.settle)
    (State.senderTold_of_inHand (s := s.drove (s.spanDrive samples ++ [true])) hr hi _)

theorem exec_withdraw_sent {s : State} {samples : List Bool} (ack : Bool) {h : FrameInHand} {x a : StationId}
    {c : ServiceClass} {k : SourceIndex} {g : Generation} (hr : s.pbe.role = .sender)
    (hi : s.ts.inHand = some h) (hg : s.spanEnd samples = .good (.withdraw x c a k g)) (ha : a ≠ s.sc.id) :
    exec (.withdrawCompletion samples ack) s =
      .next ((s.drove (s.spanDrive samples ++ [true])).reportNotice h.item (!ack)).endFrame.settle := by
  rw [exec_withdraw ack hg (State.foreignTwin_sender hr _), beq_eq_false_iff_ne.mpr ha]
  exact congrArg (fun u : State => Host.Outcome.next u.endFrame.settle)
    (State.senderTold_of_inHand (s := s.drove (s.spanDrive samples ++ [true])) hr hi _)

/-- A station that does not answer drives nothing in a positional window. -/
theorem fieldBits_positionDrive_silent (id : StationId) : fieldBits (positionDrive false id) = List.replicate 16 true :=
  show fieldBits (BitVec.allOnes 16) = List.replicate 16 true by decide +kernel

/-- A claim word of ones names no station (R18). -/
theorem readResult_allOnes (p : StationId) : readResult p (BitVec.allOnes 14) = none := by
  simp [readResult]

/-- Settles O19: the two rows tell the owner and mark the frame reported; a frame so marked reaches no owner at its
end. -/
theorem lastAttemptsFail : Obligations.LastAttemptsFail := by
  refine ⟨fun s f n before after hp hr hi hs hm hn => ?_, fun s f k hp hr hi ho hc hl hfull => ?_,
    fun s f samples hr hi => ⟨fun hd => ?_, fun x c a k g o hf ha hg => ?_, fun x c a k g hf ha hg => ?_,
      fun hp hc => ?_⟩⟩
  · have hexec := exec_noticeDrop hp hr hi hs hm hn
    refine ⟨fun h o c hn he => ?_, fun k x w hn hk => ?_⟩
    · rw [hexec, hn, State.ownerTakesEnd_done (s := s.noticeDropped (before ++ after)) _ he]
      exact congrArg (fun u : State => Host.Outcome.next u.settle)
        (State.markReported_eq (h := { item := .notice n.ref, frame := f }) (by exact hi))
    · rw [hexec, hn, State.ownerTakesEnd_withdraw (s := s.noticeDropped (before ++ after)) _ hk]
      exact congrArg (fun u : State => Host.Outcome.next u.settle)
        (State.markReported_eq (h := { item := .notice n.ref, frame := f }) (by exact hi))
  · show execSourceFailed k s = _
    rw [execSourceFailed, if_pos (by simp [hp, State.sentItem_of_inHand hr hi, ho, hc,
      (State.roundFails_iff s k).mpr ⟨hl, hfull⟩])]
    exact congrArg (fun u : State => Host.Outcome.next u.settle)
      (State.markReported_eq (h := { item := .offer k, frame := f }) (by exact hi))
  · exact exec_discarded_sender hd hr hi
  · exact exec_done_sent true hr hi (hf ▸ hg) ha
  · exact exec_withdraw_sent true hr hi (hf ▸ hg) ha
  · have hd : s.decidedFrame = some f := by simp [State.decidedFrame, hp, hc, hr, hi]
    have hsent := State.sentItem_of_inHand hr hi
    intro closed
    refine ⟨fun hk => ?_, fun hk => ?_, fun hk => ?_⟩ <;> cases f <;> cases hk
    · rw [exec_direct true hd (State.foreignTwin_sender hr _), hc, hsent]
      rfl
    · rw [exec_spread _ hd (State.foreignTwin_sender hr _), hc, hsent,
        show (ResponseRole.declined == .accepting) = false from rfl, fieldBits_positionDrive_silent]
      rfl
    · rw [exec_pool _ hd (State.foreignTwin_sender hr _), hsent, readResult_allOnes]
      simp only [State.claimEnd, hc]
      rfl

end Sys2Proof.Machine
end

section
/-! SUPPORT and OBLIGATIONS. The completions of a HELLO, a DONE and a WITHDRAW, twins, and entry to IDLE. -/

namespace Sys2Proof.Machine

/-! HELLO_COMPLETION (R12, R19, R32) -/

theorem exec_hello_sent {s : State} {samples : List Bool} (presence : StationMask) {x : StationId}
    (hg : s.spanEnd samples = .good (.hello x)) (hr : s.pbe.role = .sender) :
    exec (.helloCompletion samples presence) s = .next (({ s with
      sc := { s.sc with
        station := .run, presence := ~~~(presence &&& ~~~maskOnly s.sc.id), helloPending := false } } :
          State).betweenFrames (s.spanDrive samples ++ fieldBits (~~~maskOnly s.sc.id))).settle := by
  show execHelloCompletion samples presence s = _
  simp only [execHelloCompletion, hg, State.foreignTwin_sender hr, State.drove_pbe, hr]
  rfl

/-- Settles O21: the sender's own position samples 0, so it stands in its presence view. -/
theorem ownHelloEntersRun : Obligations.OwnHelloEntersRun := by
  intro s samples presence hg hr
  rw [exec_hello_sent presence hg hr, BitVec.not_and, BitVec.not_not]

/-! Twins (R12, R21, R105) -/

theorem State.foreignTwin_of_own {s : State} (hr : s.pbe.role = .receiver) {f : Frame} (hf : f.sender = s.sc.id) :
    s.foreignTwin f = true := by
  simp [State.foreignTwin, hr, hf]

theorem exec_hello_twin {s : State} {samples : List Bool} (presence : StationMask) {x : StationId}
    (hg : s.spanEnd samples = .good (.hello x)) (ht : s.foreignTwin (.hello x) = true) :
    exec (.helloCompletion samples presence) s =
      .next (s.halted (s.spanDrive samples ++ fieldBits (positionDrive false s.sc.id))) := by
  rw [← halted_eq]
  show execHelloCompletion samples presence s = _
  simp only [execHelloCompletion, hg, ht, if_true]
  rfl

theorem exec_done_twin {s : State} {samples : List Bool} (ack : Bool) {x a : StationId} {c : ServiceClass}
    {k : SourceIndex} {g : Generation} {o : DoneOutcome} (hg : s.spanEnd samples = .good (.done x c a k g o))
    (ht : s.foreignTwin (.done x c a k g o) = true) :
    exec (.doneCompletion samples ack) s = .next (s.halted (s.spanDrive samples ++ [!(a == s.sc.id)])) := by
  rw [← halted_eq]
  show execDoneCompletion samples ack s = _
  simp only [execDoneCompletion, hg, ht, if_true]

theorem exec_withdraw_twin {s : State} {samples : List Bool} (ack : Bool) {x a : StationId} {c : ServiceClass}
    {k : SourceIndex} {g : Generation} (hg : s.spanEnd samples = .good (.withdraw x c a k g))
    (ht : s.foreignTwin (.withdraw x c a k g) = true) :
    exec (.withdrawCompletion samples ack) s = .next (s.halted (s.spanDrive samples ++ [!(a == s.sc.id)])) := by
  rw [← halted_eq]
  show execWithdrawCompletion samples ack s = _
  simp only [execWithdrawCompletion, hg, ht, if_true]

theorem positionDrive_eq (role : ResponseRole) (id : StationId) :
    positionDrive (role == .accepting) id = if role = .accepting then ~~~maskOnly id else BitVec.allOnes 16 := by
  by_cases h : role = .accepting <;> simp [positionDrive, h]

/-! The claim-word window (R18) -/

/-- The bits of two fields at the same place. -/
theorem mem_zip_natBits {w a b : Nat} {p : Bool × Bool} (h : p ∈ (natBits w a).zip (natBits w b)) :
    ∃ i, p = (a.testBit i, b.testBit i) := by
  induction w with
  | zero => cases h
  | succ w ih =>
    rcases List.mem_cons.mp h with h | h
    · exact ⟨w, h⟩
    · exact ih h

/-- A claim word that the sampled word covers is driven to its end. -/
theorem contend_covered {own word : BitVec 14} (h : own &&& word = own) :
    contend (fieldBits own) (fieldBits word) = (true, fieldBits own) := by
  refine contend_wins _ _ (by rw [fieldBits_length, fieldBits_length]) fun p hp => ?_
  obtain ⟨i, rfl⟩ := mem_zip_natBits hp
  intro hi
  have hand : own.toNat &&& word.toNat = own.toNat := (BitVec.toNat_and own word).symm.trans (congrArg BitVec.toNat h)
  have := congrArg (·.testBit i) hand
  simp only [Nat.testBit_and] at this
  exact (Bool.and_eq_true_iff.mp (this.trans hi)).2

/-- What a station's part in the claim-word window comes to is the model's end of the window. -/
theorem State.claimEnd_of_poolResponse {s : State} {word : BitVec 14} {installs : Bool} {driven : List Bool}
    (h : s.poolResponse word installs driven) :
    (s.claimEnd word).2 = driven ∧ ((s.claimEnd word).1 == .won) = installs := by
  rcases h with ⟨hr, hi, hd⟩ | ⟨own, hr, hcover, hi, hd⟩ | ⟨own, kept, a, seen, b, hr, hown, hword, hlen, hkept, hi, hd⟩
  · simp only [State.claimEnd, hr]
    exact ⟨hd.symm, hi.symm⟩
  · simp only [State.claimEnd, hr, claimOutcome, contend_covered hcover]
    exact ⟨hd.symm, hi.symm⟩
  · simp only [State.claimEnd, hr, claimOutcome, hown, hword, contend_loses kept seen a b hlen hkept]
    exact ⟨hd.symm, hi.symm⟩

/-- Settles O23: a receiver of its own ID takes the twin's branch of each completion, with the bits it drove. -/
theorem twinFramesHalt : Obligations.TwinFramesHalt := by
  refine ⟨fun s samples presence ack hr => ⟨fun hg => ?_, fun c a k g o hg => ?_, fun c a k g hg => ?_⟩,
    fun s hr => ⟨fun c t k g v r accept hd => ?_, fun c m p k g v r word installs driven hd hresponse => ?_,
      fun c m k g v mask hd => ?_⟩⟩
  · rw [exec_hello_twin presence hg (State.foreignTwin_of_own hr rfl), fieldBits_positionDrive_silent]
  · exact exec_done_twin ack hg (State.foreignTwin_of_own hr rfl)
  · exact exec_withdraw_twin ack hg (State.foreignTwin_of_own hr rfl)
  · rw [exec_direct_twin accept hd (State.foreignTwin_of_own hr rfl), halted_eq]
  · rw [exec_pool_twin word hd (State.foreignTwin_of_own hr rfl), halted_eq, (State.claimEnd_of_poolResponse hresponse).1]
  · rw [exec_spread_twin mask hd (State.foreignTwin_of_own hr rfl), halted_eq, positionDrive_eq]

/-! Entry to IDLE (R64) -/

/-- Settles O24: entry to IDLE is `State.enterIdle_eq`, and the source joins at the tail of its class. -/
theorem entryToIdleTakesAStandingRequest : Obligations.EntryToIdleTakesAStandingRequest := by
  intro s k before after hready hw
  have hjoin : s.readyJoined k (s.readyLeft k) = before ++ k :: after := by
    rw [show s.readyLeft k = before ++ after from hready]
    exact joinReady_eq (fun j => (s.route j).cls) k before after hw.1 hw.2
  refine ⟨fun ha hl => ?_, fun h => ?_⟩
  · rw [State.enterIdle_eq, if_neg (by simp [ha, hl]), State.readyLeft, hready]
  · rw [State.enterIdle_eq, if_pos (by simpa using h), hjoin]

/-! A WITHDRAW at the Service Table (R123 to R125) -/

/-- The held offers that a WITHDRAW of source k at x with this generation matches (R124). -/
def HeldOffer.fits (o : HeldOffer) (x : StationId) (k : SourceIndex) (g : Generation) : Prop :=
  o.tracked = true ∧ o.origin = x ∧ o.source = k ∧ o.generation = g

theorem ServiceTable.withdrawMatches_iff (t : ServiceTable) (x : StationId) (k : SourceIndex) (g : Generation)
    (h : Handle) : t.withdrawMatches x k g h = true ↔ ∃ o p, t.entry h = .occupied o p ∧ o.fits x k g := by
  unfold ServiceTable.withdrawMatches HeldOffer.fits
  cases t.entry h with
  | free => simp
  | occupied o p => simp [and_assoc]

/-- Where no two entries share an origin and a source, the entry that fits is the one found (R89, R124). -/
theorem State.withdrawDelivered_fits {s : State} {x : StationId} {k : SourceIndex} {g : Generation} {h : Handle}
    {o : HeldOffer} {p : Phase} (hn : NoDuplicateEntries s) (he : s.svt.entry h = .occupied o p) (hf : o.fits x k g) :
    s.withdrawDelivered x k g = s.withdrawEntry h := by
  have hfound : allHandles.find? (s.svt.withdrawMatches x k g) = some h := by
    cases hfind : allHandles.find? (s.svt.withdrawMatches x k g) with
    | none =>
      exact absurd ((ServiceTable.withdrawMatches_iff _ x k g h).mpr ⟨o, p, he, hf⟩)
        (List.find?_eq_none.mp hfind h (List.mem_finRange h))
    | some j =>
      obtain ⟨o', p', he', hf'⟩ := (ServiceTable.withdrawMatches_iff _ x k g j).mp (List.find?_some hfind)
      obtain ⟨-, ho, hk, -⟩ := hf
      obtain ⟨-, ho', hk', -⟩ := hf'
      rw [hn j h o' p' o p he' he (ho'.trans ho.symm) (hk'.trans hk.symm)]
  rw [State.withdrawDelivered, hfound]

/-- A WITHDRAW that fits only DETACHED and CLOSING entries, or none, changes nothing (R123, R125). -/
theorem State.withdrawDelivered_stands {s : State} {x : StationId} {k : SourceIndex} {g : Generation}
    (h : ∀ h o p, s.svt.entry h = .occupied o p → o.fits x k g → p = .detached ∨ ∃ v, p = .closing v) :
    s.withdrawDelivered x k g = s := by
  unfold State.withdrawDelivered
  split
  next j hfind =>
    obtain ⟨o, p, he, hf⟩ := (ServiceTable.withdrawMatches_iff _ x k g j).mp (List.find?_some hfind)
    rcases h j o p he hf with hp | ⟨v, hp⟩ <;> simp only [State.withdrawEntry, he, hp]
  next => rfl

/-- The entry of a PENDING offer withdrawn, with its DONE queued (R121, R125). -/
theorem State.withdrawEntry_pending {s : State} {h : Handle} {o : HeldOffer} {a : Nat}
    (he : s.svt.entry h = .occupied o (.pending a)) : s.withdrawEntry h = { s with
      svt := s.svt.changeEntry h (.occupied o (.closing .withdrawn)), nl := s.nl ++ [doneNotice h o .withdrawn] } := by
  simp only [State.withdrawEntry, he]
  rfl

theorem State.withdrawEntry_active {s : State} {h : Handle} {o : HeldOffer} {w : Bool}
    (he : s.svt.entry h = .occupied o (.active w)) :
    s.withdrawEntry h = { s with svt := s.svt.setEntry h (.occupied o (.active true)) } := by
  simp only [State.withdrawEntry, he]

theorem State.withdrawDelivered_drove (s : State) (driven : List Bool) (x : StationId) (k : SourceIndex)
    (g : Generation) : (s.drove driven).withdrawDelivered x k g = (s.withdrawDelivered x k g).drove driven := by
  unfold State.withdrawDelivered State.withdrawEntry
  simp only [State.drove_svt]
  split
  · split <;> rfl
  · rfl

/-- A WITHDRAW frame that this station receives from another: the addressee alone drives ACK, and its Service Table
takes the WITHDRAW (R145). -/
theorem exec_withdraw_received {s : State} {samples : List Bool} (ack : Bool) {x a : StationId} {c : ServiceClass}
    {k : SourceIndex} {g : Generation} (hg : s.spanEnd samples = .good (.withdraw x c a k g))
    (hr : s.pbe.role = .receiver) (hx : x ≠ s.sc.id) :
    exec (.withdrawCompletion samples ack) s =
      .next ((if a == s.sc.id then s.withdrawDelivered x k g else s).betweenFrames
        (s.spanDrive samples ++ [!(a == s.sc.id)])).settle := by
  have ht : s.foreignTwin (.withdraw x c a k g) = false := by simp [State.foreignTwin, Frame.sender, hx]
  have htold := State.senderTold_receiver (s := s.drove (s.spanDrive samples ++ [!(a == s.sc.id)])) hr
    (a == s.sc.id || !ack)
  rw [exec_withdraw ack hg ht]
  dsimp only
  rw [htold, State.withdrawDelivered_drove]
  cases a == s.sc.id <;> rfl

/-- The Notice List and the Source Table after an acknowledged WITHDRAW: the notice is gone and the source records the
acknowledgement (R76, R141). -/
theorem State.noticeAcknowledged_withdraw {s : State} {n : Notice} {before after : List Notice} {k : SourceIndex}
    {x : StationId} {w : WithdrawSent} (hs : s.nl = before ++ n :: after) (hm : ∀ m ∈ before ++ after, m.ref ≠ n.ref)
    (hb : n.body = .withdraw k) (hk : (s.source k).state = .withdrawing x w) :
    s.noticeAcknowledged n.ref = ({ s with nl := before ++ after } : State).putSource k
      { s.source k with state := .withdrawing x .acknowledged } s.st.ready := by
  have hn : n.ref = .withdraw k := by simp only [Notice.ref, hb]
  simp only [State.noticeAcknowledged, notice?_of_split hs hm, removeNotice_of_split hs hm]
  rw [hn]
  exact State.ownerTakesEnd_withdraw (s := { s with nl := before ++ after }) .acknowledged hk

/-- A WITHDRAW of the station to itself acknowledges itself, and the Service Table takes it in the same completion
(R141). -/
theorem exec_withdraw_self {s : State} {samples : List Bool} (ack : Bool) {n : Notice} {before after : List Notice}
    {k : SourceIndex} {y : StationId} {w : WithdrawSent} (hr : s.pbe.role = .sender)
    (hi : s.ts.inHand =
      some { item := .notice n.ref, frame := .withdraw s.sc.id n.cls s.sc.id n.source n.generation })
    (hg : s.spanEnd samples = .good (.withdraw s.sc.id n.cls s.sc.id n.source n.generation))
    (hs : s.nl = before ++ n :: after) (hm : ∀ m ∈ before ++ after, m.ref ≠ n.ref) (hb : n.body = .withdraw k)
    (hk : (s.source k).state = .withdrawing y w) :
    exec (.withdrawCompletion samples ack) s =
      .next (((({ s with nl := before ++ after } : State).putSource k
        { s.source k with state := .withdrawing y .acknowledged } s.st.ready).withdrawDelivered s.sc.id n.source
          n.generation).betweenFrames (s.spanDrive samples ++ [false])).settle := by
  have htold : (s.drove (s.spanDrive samples ++ [false])).senderTold true =
      (({ s with nl := before ++ after } : State).putSource k
        { s.source k with state := .withdrawing y .acknowledged } s.st.ready).drove (s.spanDrive samples ++ [false]) :=
    (State.senderTold_of_inHand (s := s.drove (s.spanDrive samples ++ [false])) hr hi true).trans
      (State.noticeAcknowledged_withdraw (s := s.drove (s.spanDrive samples ++ [false])) hs hm hb hk)
  rw [exec_withdraw ack hg (State.foreignTwin_sender hr _), beq_self_eq_true]
  show Host.Outcome.next (((s.drove (s.spanDrive samples ++ [false])).senderTold true).withdrawDelivered s.sc.id n.source
    n.generation).endFrame.settle = _
  rw [htold, State.withdrawDelivered_drove]
  rfl

/-- Settles O26: with no duplicates the entry that fits is the one found, and it takes the WITHDRAW by its phase. -/
theorem withdrawReachesTheMatchingEntry : Obligations.WithdrawReachesTheMatchingEntry := by
  refine ⟨fun s samples ack x c k g hg hr hx hn => ?_, fun s samples ack x a c k g hg hr hx ha => ?_,
    fun s samples ack n f before after k y w hr hi hg hs hm hb hf hk hn => ?_⟩
  · have hexec := exec_withdraw_received ack hg hr hx
    simp only [beq_self_eq_true, if_true] at hexec
    intro fits ends
    refine ⟨fun h o p he hfits => ?_, fun hnone => ?_⟩
    · rw [State.withdrawDelivered_fits hn he hfits] at hexec
      obtain ⟨-, hx, hk, hgen⟩ := hfits
      cases p with
      | pending a =>
        rw [State.withdrawEntry_pending he, doneNotice, hx, hk, hgen] at hexec
        exact hexec
      | active v =>
        rw [State.withdrawEntry_active he] at hexec
        exact hexec
      | detached =>
        simp only [State.withdrawEntry, he] at hexec
        exact hexec
      | closing v =>
        simp only [State.withdrawEntry, he] at hexec
        exact hexec
    · rw [State.withdrawDelivered_stands fun h o p he hf => absurd hf (hnone h o p he)] at hexec
      exact hexec
  · rw [exec_withdraw_received ack hg hr hx, beq_eq_false_iff_ne.mpr ha]
    rfl
  · subst hf
    intro told ends fits
    have hexec : exec (.withdrawCompletion samples ack) s = ends (told.withdrawDelivered s.sc.id n.source n.generation) :=
      exec_withdraw_self ack hr hi hg hs hm hb hk
    refine ⟨fun h o p he hfits => ?_, fun h o v he hfits => ?_, fun hstands => ?_⟩
    · rw [hexec, State.withdrawDelivered_fits (s := told) hn he hfits, State.withdrawEntry_pending (s := told) he, doneNotice]
      obtain ⟨-, hx, hk, hgen⟩ := hfits
      rw [hx, hk, hgen]
      rfl
    · rw [hexec, State.withdrawDelivered_fits (s := told) hn he hfits, State.withdrawEntry_active (s := told) he]
      rfl
    · rw [hexec, State.withdrawDelivered_stands (s := told) hstands]

/-! The end of a notice at its sender (R141 to R143) -/

/-- Settles O27: the sender's Notice List takes the ACK as sampled, and at the last attempt its owner the drop. -/
theorem acknowledgementEndsANotice : Obligations.AcknowledgementEndsANotice := by
  intro s samples n f before after hr hi hg hs hm ha ends again dropped
  have hlow (hn : n.attempts < 15) : (s.drove (s.spanDrive samples ++ [true])).noticeUnsuccessful n.ref =
      again.drove (s.spanDrive samples ++ [true]) :=
    State.noticeUnsuccessful_of_split (s := s.drove (s.spanDrive samples ++ [true])) hs hm hn
  have hlast (hn : 15 ≤ n.attempts) : (s.drove (s.spanDrive samples ++ [true])).noticeUnsuccessful n.ref =
      (dropped.drove (s.spanDrive samples ++ [true])).ownerTakesEnd n.ref .dropped :=
    (State.noticeUnsuccessful_at_limit (s := s.drove (s.spanDrive samples ++ [true])) hs hm hn).trans
      (State.dropNotice_of_split (s := s.drove (s.spanDrive samples ++ [true])) hs hm)
  have hends (c : Instr) (ack : Bool) (v : State)
      (hc : exec c s =
        .next ((s.drove (s.spanDrive samples ++ [true])).reportNotice (.notice n.ref) (!ack)).endFrame.settle)
      (hv : (s.drove (s.spanDrive samples ++ [true])).reportNotice (.notice n.ref) (!ack) =
        v.drove (s.spanDrive samples ++ [true])) : exec c s = ends v := by
    rw [hc, hv]
    rfl
  refine ⟨fun h e hb hf => ?_, fun k hb hf => ?_⟩
  · have hsent (ack : Bool) := exec_done_sent ack hr hi (hf ▸ hg) ha
    have hn : n.ref = .done h := by simp only [Notice.ref, hb]
    refine ⟨fun o c he => hends _ false _ (hsent false) ?_, fun hlt => hends _ true _ (hsent true) (hlow hlt),
      fun hge o c he => hends _ true _ (hsent true) ((hlast hge).trans ?_)⟩
    · exact State.noticeAcknowledged_done (s := s.drove (s.spanDrive samples ++ [true])) hs hm hb he
    · rw [hn]
      exact State.ownerTakesEnd_done (s := dropped.drove (s.spanDrive samples ++ [true])) .dropped he
  · have hsent (ack : Bool) := exec_withdraw_sent ack hr hi (hf ▸ hg) ha
    have hn : n.ref = .withdraw k := by simp only [Notice.ref, hb]
    refine ⟨fun x w hk => hends _ false _ (hsent false) ?_, fun hlt => hends _ true _ (hsent true) (hlow hlt),
      fun hge x w hk => hends _ true _ (hsent true) ((hlast hge).trans ?_)⟩
    · exact State.noticeAcknowledged_withdraw (s := s.drove (s.spanDrive samples ++ [true])) hs hm hb hk
    · rw [hn]
      exact State.ownerTakesEnd_withdraw (s := dropped.drove (s.spanDrive samples ++ [true])) .dropped hk

end Sys2Proof.Machine
end

section
/-! SUPPORT and OBLIGATIONS. A HELLO from a peer: the sources placed or being withdrawn there, the entries that hold its
offers, and the notices addressed to it. -/

namespace Sys2Proof.Machine

/-! The sources (R77, R78) -/

/-- A source that a HELLO does not concern keeps its record. -/
theorem State.helloReleasesSource_stands {s : State} {x : StationId} {k : SourceIndex}
    (hp : (s.source k).state ≠ .placed x) (hw : ∀ w, (s.source k).state ≠ .withdrawing x w) :
    State.helloReleasesSource x s k = s := by
  unfold State.helloReleasesSource
  split
  next y h => exact if_neg fun hy => hp (by rw [h, hy])
  next y w h => exact if_neg fun hy => hw w (by rw [h, hy])
  next => rfl

/-- A source that enters IDLE holds a new offer where a request stands, and no offer elsewhere. -/
theorem State.enterIdle_record {s : State} {k : SourceIndex} {asks : Prop} [Decidable asks]
    (h : asks ↔ (s.source k).again = true ∨ s.levelAsks k = true) :
    if asks then (s.enterIdle k).source k = s.newOffer k false ∧ k ∈ (s.enterIdle k).st.ready
    else (s.enterIdle k).source k = s.idleRecord k := by
  rw [State.enterIdle_eq]
  by_cases ha : asks
  · have hor : ((s.source k).again || s.levelAsks k) = true := by simpa using h.mp ha
    rw [if_pos ha, if_pos hor]
    exact ⟨(State.source_of_st rfl k).trans (if_pos rfl), (State.mem_readyJoined s k k _).mpr (.inl rfl)⟩
  · have hor : ¬ ((s.source k).again || s.levelAsks k) = true := fun hor => ha (h.mpr (by simpa using hor))
    rw [if_neg ha, if_neg hor]
    exact (State.source_of_st rfl k).trans (if_pos rfl)

/-- A source placed at x is offered again, or goes IDLE if it is LEVEL and its line does not ask (R77). -/
theorem State.helloReleasesSource_placed {s : State} {x : StationId} {k : SourceIndex}
    (h : (s.source k).state = .placed x) :
    if s.isLevel k = false ∨ s.levelAsks k = true then
      (State.helloReleasesSource x s k).source k = s.newOffer k false ∧ k ∈ (State.helloReleasesSource x s k).st.ready
    else (State.helloReleasesSource x s k).source k = s.idleRecord k := by
  have hcleared : (s.setSource k { s.source k with again := false }).source k = { s.source k with again := false } := by
    rw [State.source_setSource, if_pos rfl]
  have hrelease : State.helloReleasesSource x s k =
      if s.isLevel k then (s.setSource k { s.source k with again := false }).enterIdle k
      else (s.setSource k { s.source k with again := false }).enterReady k := by
    simp only [State.helloReleasesSource, h, if_true]
    rfl
  have hoffer : (s.setSource k { s.source k with again := false }).newOffer k false = s.newOffer k false := by
    unfold State.newOffer
    rw [hcleared]
    rfl
  have hidle : (s.setSource k { s.source k with again := false }).idleRecord k = s.idleRecord k := by
    unfold State.idleRecord
    rw [hcleared]
  cases hl : s.isLevel k with
  | false =>
    rw [if_pos (.inl rfl), hrelease, hl, if_neg Bool.false_ne_true, State.enterReady_eq, hcleared, hoffer]
    exact ⟨(State.source_of_st rfl k).trans (if_pos rfl), (State.mem_readyJoined s k k _).mpr (.inl rfl)⟩
  | true =>
    have hrecord := State.enterIdle_record (s := s.setSource k { s.source k with again := false }) (k := k)
      (asks := true = false ∨ s.levelAsks k = true) (by rw [hcleared]; simp; rfl)
    rw [hrelease, hl, if_pos rfl]
    rwa [hoffer, hidle] at hrecord

/-- A source being withdrawn at x enters IDLE (R78). -/
theorem State.helloReleasesSource_withdrawing {s : State} {x : StationId} {k : SourceIndex} {w : WithdrawSent}
    (h : (s.source k).state = .withdrawing x w) :
    State.helloReleasesSource x s k = (s.removeNotice (.withdraw k)).enterIdle k := by
  simp only [State.helloReleasesSource, h, if_true]

/-- The HELLO of one source leaves the other sources their places on the ready list. -/
theorem State.helloReleasesSource_ready (x : StationId) (s : State) (k : SourceIndex) {j : SourceIndex} (hj : j ≠ k) :
    j ∈ (State.helloReleasesSource x s k).st.ready ↔ j ∈ s.st.ready := by
  unfold State.helloReleasesSource
  split
  · split
    · dsimp only
      split
      · exact (State.enterIdle_tickMoved _ k).ready j hj
      · exact (State.enterReady_tickMoved _ k).ready j hj
    · exact Iff.rfl
  · split
    · exact (State.enterIdle_tickMoved (s.removeNotice (.withdraw k)) k).ready j hj
    · exact Iff.rfl
  · exact Iff.rfl

/-- The HELLOs of other sources leave source k its record and its place on the ready list. -/
theorem helloReleases_elsewhere (x : StationId) (ks : List SourceIndex) (s : State) {k : SourceIndex} (hk : k ∉ ks) :
    (ks.foldl (State.helloReleasesSource x) s).source k = s.source k ∧
      (k ∈ (ks.foldl (State.helloReleasesSource x) s).st.ready ↔ k ∈ s.st.ready) := by
  induction ks generalizing s with
  | nil => exact ⟨rfl, Iff.rfl⟩
  | cons j ks ih =>
    obtain ⟨hkj, hk⟩ := not_or.mp (mt List.mem_cons.mpr hk)
    obtain ⟨hsource, hready⟩ := ih (State.helloReleasesSource x s j) hk
    exact ⟨hsource.trans ((State.helloReleasesSource_moved x s j).2 k hkj),
      hready.trans (State.helloReleasesSource_ready x s j hkj)⟩

/-- Source k takes the HELLO in a state that differs in other records alone. -/
theorem State.helloReleasesSources_at (s : State) (x : StationId) (k : SourceIndex) :
    ∃ u, s.sourcesMoved u ∧ u.source k = s.source k ∧
      (s.helloReleasesSources x).source k = (State.helloReleasesSource x u k).source k ∧
      (k ∈ (s.helloReleasesSources x).st.ready ↔ k ∈ (State.helloReleasesSource x u k).st.ready) := by
  obtain ⟨a, b, hab⟩ := List.append_of_mem (List.mem_finRange k)
  have hnd : (a ++ k :: b).Nodup := hab ▸ List.nodup_finRange 24
  rw [List.nodup_append] at hnd
  obtain ⟨-, hnb, hne⟩ := hnd
  have hka : k ∉ a := fun hm => hne k hm k (List.mem_cons_self ..) rfl
  have hkb : k ∉ b := (List.nodup_cons.mp hnb).1
  have hafter := helloReleases_elsewhere x b (State.helloReleasesSource x (a.foldl (State.helloReleasesSource x) s) k) hkb
  refine ⟨a.foldl (State.helloReleasesSource x) s, foldl_sourcesMoved _ (State.helloReleasesSource_moved x) a s,
    (helloReleases_elsewhere x a s hka).1, ?_⟩
  rw [State.helloReleasesSources, allSources, hab, List.foldl_append, List.foldl_cons]
  exact hafter

/-- What a HELLO from x makes of source k: a source placed or being withdrawn there is released (R77, R78). -/
def State.helloReleased (s t : State) (x : StationId) (k : SourceIndex) : Prop :=
  match (s.source k).state with
  | .placed y => if y = x then
      (if s.isLevel k = false ∨ s.levelAsks k = true then t.source k = s.newOffer k false ∧ k ∈ t.st.ready
      else t.source k = s.idleRecord k)
    else t.source k = s.source k
  | .withdrawing y _ => if y = x then
      (if (s.source k).again = true ∨ s.levelAsks k = true then t.source k = s.newOffer k false ∧ k ∈ t.st.ready
      else t.source k = s.idleRecord k)
    else t.source k = s.source k
  | _ => t.source k = s.source k

theorem State.helloReleased_of_stands {s t : State} {x : StationId} {k : SourceIndex}
    (hp : (s.source k).state ≠ .placed x) (hw : ∀ w, (s.source k).state ≠ .withdrawing x w)
    (ht : t.source k = s.source k) : s.helloReleased t x k := by
  unfold State.helloReleased
  split
  next y h => rwa [if_neg fun hy => hp (by rw [h, hy])]
  next y w h => rwa [if_neg fun hy => hw w (by rw [h, hy])]
  next => exact ht

theorem State.helloReleasesSource_released (s : State) (x : StationId) (k : SourceIndex) :
    s.helloReleased (State.helloReleasesSource x s k) x k := by
  by_cases hp : (s.source k).state = .placed x
  · simp only [State.helloReleased, hp, if_true]
    exact State.helloReleasesSource_placed hp
  · by_cases hw : ∃ w, (s.source k).state = .withdrawing x w
    · obtain ⟨w, hw⟩ := hw
      have hrecord := State.enterIdle_record (s := s.removeNotice (.withdraw k)) (k := k) Iff.rfl
      simp only [State.helloReleased, hw, if_true, State.helloReleasesSource_withdrawing hw]
      exact hrecord
    · have hstands := State.helloReleasesSource_stands hp fun w h => hw ⟨w, h⟩
      exact State.helloReleased_of_stands hp (fun w h => hw ⟨w, h⟩) (by rw [hstands])

theorem State.helloReleasesSources_released (s : State) (x : StationId) (k : SourceIndex) :
    s.helloReleased (s.helloReleasesSources x) x k := by
  obtain ⟨u, hmoved, hsource, hrecord, hready⟩ := s.helloReleasesSources_at x k
  have hreleased := u.helloReleasesSource_released x k
  have hroute : u.route k = s.route k := congrArg (fun cs => cs.routes.get k) hmoved.cs
  have hlevel : u.isLevel k = s.isLevel k := by unfold State.isLevel State.setting; rw [hmoved.cs]
  have hasks : u.levelAsks k = s.levelAsks k := by
    unfold State.levelAsks State.setting State.line State.route
    rw [hmoved.cs, hmoved.liu]
  unfold State.helloReleased at hreleased ⊢
  rw [hsource, hlevel, hasks, State.newOffer_congr hsource hroute, State.idleRecord_congr hsource] at hreleased
  rw [hrecord, hready]
  exact hreleased

/-! The notices (R78, R147) -/

/-- The notices of the sources being withdrawn at x are addressed to x. -/
def State.withdrawsAddressed (s : State) (x : StationId) : Prop :=
  ∀ n ∈ s.nl, ∀ k w, n.ref = .withdraw k → (s.source k).state = .withdrawing x w → n.addressee = x

theorem NoticesMatch.withdrawsAddressed {s : State} (h : NoticesMatch s) (x : StationId) : s.withdrawsAddressed x := by
  intro n hn k w hr hk
  have hbody : n.body = .withdraw k := by
    unfold Notice.ref at hr
    split at hr
    · cases hr
    · cases hr
      assumption
  have hstate := (h.withdrawFields n hn k hbody).1
  rw [hk] at hstate
  cases hstate
  rfl

/-- The HELLO of one source takes its WITHDRAW notice where it was being withdrawn at x (R78). -/
theorem State.helloReleasesSource_nl_kept {s : State} {x : StationId} {k : SourceIndex}
    (hw : ∀ w, (s.source k).state ≠ .withdrawing x w) : (State.helloReleasesSource x s k).nl = s.nl := by
  unfold State.helloReleasesSource
  split
  · split
    · dsimp only
      split
      · exact State.enterIdle_nl _ k
      · rfl
    · rfl
  next y w h => rw [if_neg fun hy => hw w (by rw [h, hy])]
  next => rfl

theorem State.helloReleasesSource_nl {s : State} {x : StationId} {k : SourceIndex} {w : WithdrawSent}
    (hw : (s.source k).state = .withdrawing x w) :
    (State.helloReleasesSource x s k).nl = s.nl.filter fun n => n.ref != .withdraw k := by
  rw [State.helloReleasesSource_withdrawing hw, State.enterIdle_nl]
  rfl

theorem State.helloReleasesSource_nl_subset (x : StationId) (s : State) (k : SourceIndex) :
    ∀ n ∈ (State.helloReleasesSource x s k).nl, n ∈ s.nl := by
  by_cases hw : ∃ w, (s.source k).state = .withdrawing x w
  · obtain ⟨w, hw⟩ := hw
    rw [State.helloReleasesSource_nl hw]
    exact fun n hn => List.mem_of_mem_filter hn
  · rw [State.helloReleasesSource_nl_kept fun w h => hw ⟨w, h⟩]
    exact fun n hn => hn

/-- After its HELLO a source is not being withdrawn at x. -/
theorem State.helloReleasesSource_not_withdrawing (x : StationId) (s : State) (k : SourceIndex) (w : WithdrawSent) :
    ((State.helloReleasesSource x s k).source k).state ≠ .withdrawing x w := by
  have hreleased := s.helloReleasesSource_released x k
  unfold State.helloReleased at hreleased
  split at hreleased
  next y h => split_ifs at hreleased <;> simp [hreleased, h, State.newOffer, State.idleRecord]
  next y v h =>
    split_ifs at hreleased with hy
    · simp [hreleased, State.newOffer]
    · simp [hreleased, State.idleRecord]
    · simp [hreleased, h, hy]
  next h =>
    rw [hreleased]
    exact h x w

/-- Of the notices not addressed to x the HELLO of one source takes none. -/
theorem State.withdrawsAddressed.releases {s : State} {x : StationId} (h : s.withdrawsAddressed x) (k : SourceIndex) :
    ((State.helloReleasesSource x s k).nl.filter fun n => n.addressee != x) = (s.nl.filter fun n => n.addressee != x) ∧
      (State.helloReleasesSource x s k).withdrawsAddressed x := by
  refine ⟨?_, fun n hn j w hr hj => ?_⟩
  · by_cases hw : ∃ w, (s.source k).state = .withdrawing x w
    · obtain ⟨w, hw⟩ := hw
      rw [State.helloReleasesSource_nl hw, List.filter_filter]
      refine List.filter_congr fun n hn => ?_
      by_cases hr : n.ref = .withdraw k
      · simp [h n hn k w hr hw]
      · simp [hr]
    · rw [State.helloReleasesSource_nl_kept fun w h => hw ⟨w, h⟩]
  · by_cases hjk : j = k
    · subst hjk
      exact absurd hj (State.helloReleasesSource_not_withdrawing x s j w)
    · rw [(State.helloReleasesSource_moved x s k).2 j hjk] at hj
      exact h n (State.helloReleasesSource_nl_subset x s k n hn) j w hr hj

theorem State.helloReleasesSources_nl {s : State} {x : StationId} (h : s.withdrawsAddressed x) :
    ((s.helloReleasesSources x).nl.filter fun n => n.addressee != x) = s.nl.filter fun n => n.addressee != x := by
  unfold State.helloReleasesSources
  generalize allSources = ks
  induction ks generalizing s with
  | nil => rfl
  | cons k ks ih =>
    obtain ⟨hnl, hkept⟩ := h.releases k
    exact (ih hkept).trans hnl

/-! The entries (R127) -/

/-- An entry but for its arrival position. -/
def Entry.sansArrival : Entry → Entry
  | .free => .free
  | .occupied o (.pending _) => .occupied o (.pending 0)
  | .occupied o (.active w) => .occupied o (.active w)
  | .occupied o .detached => .occupied o .detached
  | .occupied o (.closing c) => .occupied o (.closing c)

/-- What a HELLO from x makes of an entry (R127). -/
def Entry.helloReleased (x : StationId) : Entry → Entry
  | .free => .free
  | .occupied o (.pending p) => if o.origin = x then .free else .occupied o (.pending p)
  | .occupied o (.active w) => if o.origin = x then .occupied o .detached else .occupied o (.active w)
  | .occupied o .detached => .occupied o .detached
  | .occupied o (.closing c) => if o.origin = x then .free else .occupied o (.closing c)

theorem Entry.sansArrival_moveUp (p : Nat) (e : Entry) : (Entry.moveUp p e).sansArrival = e.sansArrival := by
  rcases e with _ | ⟨o, ph⟩
  · rfl
  · cases ph <;> rfl

theorem ServiceTable.sansArrival_changeEntry (t : ServiceTable) (h j : Handle) (e : Entry) :
    ((t.changeEntry h e).entry j).sansArrival = if j = h then e.sansArrival else (t.entry j).sansArrival := by
  rw [ServiceTable.entry_changeEntry]
  split
  · rfl
  · split
    · exact Entry.sansArrival_moveUp _ _
    · rfl

/-- A HELLO from x releases the entry that it reaches, and leaves the others but for their arrival positions. -/
theorem ServiceTable.sansArrival_helloReleases (t : ServiceTable) (x : StationId) (h j : Handle) :
    ((t.helloReleases x h).entry j).sansArrival =
      if j = h then (t.entry j).sansArrival.helloReleased x else (t.entry j).sansArrival := by
  have hstands (hh : (t.entry h).sansArrival = (t.entry h).sansArrival.helloReleased x) :
      (t.entry j).sansArrival =
        if j = h then (t.entry j).sansArrival.helloReleased x else (t.entry j).sansArrival := by
    split
    next hj => rw [hj]; exact hh
    next => rfl
  have hchanges (e : Entry) (hh : e.sansArrival = (t.entry h).sansArrival.helloReleased x) :
      ((t.changeEntry h e).entry j).sansArrival =
        if j = h then (t.entry j).sansArrival.helloReleased x else (t.entry j).sansArrival := by
    rw [ServiceTable.sansArrival_changeEntry]
    split
    next hj => rw [hj]; exact hh
    next => rfl
  unfold ServiceTable.helloReleases
  split
  next o p he =>
    split
    next hx =>
      cases p with
      | pending n => exact hchanges _ (by rw [he]; exact (if_pos hx).symm)
      | active w => exact hchanges _ (by rw [he]; exact (if_pos hx).symm)
      | detached => exact hstands (by rw [he]; rfl)
      | closing c => exact hchanges _ (by rw [he]; exact (if_pos hx).symm)
    next hx => exact hstands (by rw [he]; cases p <;> simp [Entry.sansArrival, Entry.helloReleased, hx])
  next he => exact hstands (by rw [he]; rfl)

theorem Entry.helloReleased_idem (x : StationId) (e : Entry) : (e.helloReleased x).helloReleased x = e.helloReleased x := by
  rcases e with _ | ⟨o, p⟩
  · rfl
  · cases p <;> by_cases hx : o.origin = x <;> simp [Entry.helloReleased, hx]

theorem ServiceTable.sansArrival_helloReleases_foldl (x : StationId) (hs : List Handle) (t : ServiceTable) (j : Handle) :
    ((hs.foldl (ServiceTable.helloReleases x) t).entry j).sansArrival =
      if j ∈ hs then (t.entry j).sansArrival.helloReleased x else (t.entry j).sansArrival := by
  induction hs generalizing t with
  | nil => rfl
  | cons h hs ih =>
    rw [List.foldl_cons, ih, ServiceTable.sansArrival_helloReleases]
    by_cases hj : j = h <;> by_cases hm : j ∈ hs <;> simp [hj, hm, Entry.helloReleased_idem]

theorem ServiceTable.helloReleases_stack (x : StationId) (hs : List Handle) (t : ServiceTable) :
    (hs.foldl (ServiceTable.helloReleases x) t).stack = t.stack ∧
      (hs.foldl (ServiceTable.helloReleases x) t).threshold = t.threshold := by
  induction hs generalizing t with
  | nil => exact ⟨rfl, rfl⟩
  | cons h hs ih =>
    have hstep : (t.helloReleases x h).stack = t.stack ∧ (t.helloReleases x h).threshold = t.threshold := by
      unfold ServiceTable.helloReleases
      split
      next o p he =>
        split
        · cases p <;> simp
        · exact ⟨rfl, rfl⟩
      next => exact ⟨rfl, rfl⟩
    exact ⟨(ih _).1.trans hstep.1, (ih _).2.trans hstep.2⟩

/-- What a HELLO from x makes of an entry, the arrival position of a PENDING one being another (R109, R127). -/
def Entry.releasedTo (x : StationId) (e e' : Entry) : Prop :=
  match e with
  | .free => e' = .free
  | .occupied o (.pending _) => if o.origin = x then e' = .free else ∃ p, e' = .occupied o (.pending p)
  | .occupied o (.active w) => e' = if o.origin = x then .occupied o .detached else .occupied o (.active w)
  | .occupied o .detached => e' = .occupied o .detached
  | .occupied o (.closing c) => e' = if o.origin = x then .free else .occupied o (.closing c)

theorem Entry.releasedTo_of_sansArrival {x : StationId} {e e' : Entry}
    (h : e'.sansArrival = e.sansArrival.helloReleased x) : e.releasedTo x e' := by
  unfold Entry.releasedTo
  rcases e with _ | ⟨o, p⟩
  · rcases e' with _ | ⟨o', p'⟩
    · rfl
    · cases p' <;> cases h
  · cases p <;> by_cases hx : o.origin = x <;>
      simp only [Entry.sansArrival, Entry.helloReleased, hx, if_true, if_false] at h ⊢
    all_goals
      rcases e' with _ | ⟨o', p'⟩
      · simp_all
      · cases p' <;> simp_all

/-! HELLO_COMPLETION at a peer -/

theorem exec_hello_received {s : State} {samples : List Bool} (presence : StationMask) {x : StationId}
    (hg : s.spanEnd samples = .good (.hello x)) (hx : x ≠ s.sc.id) (hr : s.pbe.role = .receiver) :
    exec (.helloCompletion samples presence) s =
      .next ((s.drove (s.spanDrive samples ++ fieldBits (~~~maskOnly s.sc.id))).helloDelivered x).endFrame.settle := by
  have ht : s.foreignTwin (.hello x) = false := by simp [State.foreignTwin, Frame.sender, hx]
  show execHelloCompletion samples presence s = _
  simp only [execHelloCompletion, hg, ht, State.drove_pbe, hr, positionDrive, Bool.not_false, Bool.false_eq_true, if_true,
    if_false]

/-- Settles O22: the HELLO reaches the sources one by one (`State.helloReleasesSources_released`), the entries one by
one (`ServiceTable.sansArrival_helloReleases_foldl`), and takes the notices addressed to the peer. -/
theorem peerHelloReleasesWhatIsHeld : Obligations.PeerHelloReleasesWhatIsHeld := by
  intro s samples presence x hg hx hr hn
  refine ⟨_, exec_hello_received presence hg hx hr, ?_⟩
  generalize hd : s.spanDrive samples ++ fieldBits (~~~maskOnly s.sc.id) = driven
  rw [State.helloDelivered_eq]
  have hmoved := State.helloReleasesSources_moved (s.drove driven) x
  have hsources (k : SourceIndex) : s.helloReleased ((s.drove driven).helloReleasesSources x) x k :=
    State.helloReleasesSources_released (s.drove driven) x k
  have hnl := State.helloReleasesSources_nl (s := s.drove driven) (hn.withdrawsAddressed x)
  have hentries (h : Handle) := ServiceTable.sansArrival_helloReleases_foldl x allHandles s.svt h
  obtain ⟨hstack, hthreshold⟩ := ServiceTable.helloReleases_stack x allHandles s.svt
  generalize (s.drove driven).helloReleasesSources x = u at hmoved hsources hnl ⊢
  rw [State.drove_svt]
  generalize allHandles.foldl (ServiceTable.helloReleases x) s.svt = table at hentries hstack hthreshold ⊢
  refine ⟨congrArg Pins.pbdOut hmoved.pins, fun k => hsources k, fun h => ?_, hstack, hthreshold, hnl, hmoved.sc, hmoved.cs,
    hmoved.liu, hmoved.cu, rfl, ?_⟩
  · exact Entry.releasedTo_of_sansArrival ((hentries h).trans (if_pos (List.mem_finRange h)))
  · exact congrArg (fun b : BusEngine => { b with
      role := .noRole, current := [], claim := .notClaiming, driving := false, idleCount := 0 }) hmoved.pbe

end Sys2Proof.Machine
end

section
/-! SUPPORT and OBLIGATIONS. The completions of an offer: the Claim Unit closes its part, and at the origin the source takes
the answer. -/

namespace Sys2Proof.Machine

/-! The Claim Unit closes (R91, R100) -/

/-- The Service Table where a reserved entry is installed or released (R91, R100). -/
def State.claimInstalled (s : State) (installs : Bool) (o : HeldOffer) : ServiceTable :=
  match installs, s.cu.reservation with
  | true, some h => s.svt.setEntry h (.occupied o (.pending s.svt.pendingCount))
  | _, _ => s.svt

/-- The Claim Unit's part in an offer is over (R91). -/
def State.claimClosed (s : State) (installs : Bool) (o : HeldOffer) : State :=
  { s with cu := { s.cu with reservation := none, role := .noRole }, svt := s.claimInstalled installs o }

/-- The response bits of an offer have been driven, and its claim state stands until the frame's end (R18). -/
def State.responded (s : State) (claim : ClaimState) (driven : List Bool) : State :=
  { s with pbe := { s.pbe with claim := claim }, pins := { s.pins with pbdOut := driven } }

theorem State.offerClosed_eq {s : State} {f : Frame} {o : HeldOffer} (ho : f.offer = some o) (driven : List Bool)
    (claim : ClaimState) (installs : Bool) (p : StationId) : s.offerClosed driven claim installs f p =
      ({ s.claimClosed installs o with cu := { (s.claimClosed installs o).cu with pointer := p } } :
        State).responded claim driven := by
  unfold State.offerClosed State.claimClosed State.claimInstalled State.closeClaim State.install State.drove
  rw [ho]
  cases installs with
  | false => rfl
  | true => cases s.cu.reservation <;> rfl

theorem State.responded_endFrame (s : State) (claim : ClaimState) (driven : List Bool) :
    (s.responded claim driven).endFrame = s.betweenFrames driven := rfl

/-! The source takes the answer (R67, R68, R71) -/

theorem State.enterIdle_responded (s : State) (claim : ClaimState) (driven : List Bool) (k : SourceIndex) :
    (s.responded claim driven).enterIdle k = (s.enterIdle k).responded claim driven := by
  simp only [State.enterIdle, apply_ite (State.responded · claim driven)]
  rfl

theorem State.roundUnsuccessful_responded (s : State) (claim : ClaimState) (driven : List Bool) (k : SourceIndex) :
    (s.responded claim driven).roundUnsuccessful k = (s.roundUnsuccessful k).responded claim driven := by
  unfold State.roundUnsuccessful
  rw [apply_ite (State.responded · claim driven)]
  rfl

theorem State.offerPlaced_responded (s : State) (claim : ClaimState) (driven : List Bool) (k : SourceIndex)
    (x : StationId) : (s.responded claim driven).offerPlaced k x = (s.offerPlaced k x).responded claim driven := by
  have hsource : (s.responded claim driven).source k = s.source k := rfl
  unfold State.offerPlaced
  rw [hsource]
  split
  · rw [apply_ite (State.responded · claim driven)]
    rfl
  · rfl

theorem State.offerNotPlaced_responded (s : State) (claim : ClaimState) (driven : List Bool) (k : SourceIndex) :
    (s.responded claim driven).offerNotPlaced k = (s.offerNotPlaced k).responded claim driven := by
  have hsource : (s.responded claim driven).source k = s.source k := rfl
  unfold State.offerNotPlaced
  rw [hsource]
  split
  · rw [apply_ite (State.responded · claim driven), State.enterIdle_responded, State.roundUnsuccessful_responded]
  · rfl

theorem State.offerReported_responded (s : State) (claim : ClaimState) (driven : List Bool) (item : Option Item)
    (placed : Option StationId) :
    (s.responded claim driven).offerReported item placed = (s.offerReported item placed).responded claim driven := by
  unfold State.offerReported
  split
  · exact State.offerPlaced_responded _ _ _ _ _
  · exact State.offerNotPlaced_responded _ _ _ _
  · rfl

/-- An offer placed at x. -/
theorem State.offerPlaced_kept {s : State} {k : SourceIndex} (ho : (s.source k).state = .offering)
    (hc : (s.source k).cancelPending = false) (x : StationId) :
    s.offerPlaced k x = s.putSource k { s.source k with state := .placed x, retry := 0 } s.st.ready := by
  simp only [State.offerPlaced, ho, hc, Bool.false_eq_true, if_false]
  rfl

/-- An offer placed at x whose source was cancelled is withdrawn there at once (R67, R75). -/
theorem State.offerPlaced_cancelled {s : State} {k : SourceIndex} (ho : (s.source k).state = .offering)
    (hc : (s.source k).cancelPending = true) (x : StationId) : s.offerPlaced k x =
      ({ s with nl := s.nl ++ [s.withdrawNotice k x] } : State).putSource k
        { s.source k with state := .withdrawing x .no, retry := 0, cancelPending := false } s.st.ready := by
  have hretry : (s.setSource k { s.source k with retry := 0 }).source k = { s.source k with retry := 0 } := by
    rw [State.source_setSource, if_pos rfl]
  have hnotice : (s.setSource k { s.source k with retry := 0 }).withdrawNotice k x = s.withdrawNotice k x := by
    unfold State.withdrawNotice
    rw [hretry]
    rfl
  calc s.offerPlaced k x = (s.setSource k { s.source k with retry := 0 }).enterWithdrawing k x := by
        simp only [State.offerPlaced, ho, hc, if_true]
    _ = ((s.setSource k { s.source k with retry := 0 }).setSource k
          { s.source k with state := .withdrawing x .no, retry := 0, cancelPending := false }).queueNotice
            (s.withdrawNotice k x) := by
        rw [State.enterWithdrawing, hnotice, hretry]
    _ = _ := by
        rw [setSource_setSource]
        rfl

theorem State.offerNotPlaced_of_offering {s : State} {k : SourceIndex} (ho : (s.source k).state = .offering) :
    s.offerNotPlaced k = if (s.source k).cancelPending then s.enterIdle k else s.roundUnsuccessful k := by
  simp only [State.offerNotPlaced, ho]

theorem State.offerNotPlaced_backs_off {s : State} {k : SourceIndex} (ho : (s.source k).state = .offering)
    (hc : (s.source k).cancelPending = false)
    (h : s.cs.declineLimit = 0 ∨ (s.source k).retry.toNat + 1 ≠ s.cs.declineLimit.toNat) :
    s.offerNotPlaced k = s.putSource k { s.source k with
      state := .backoff s.cs.retryDelay.toNat,
      retry := BitVec.ofNat 8 (min ((s.source k).retry.toNat + 1) 255) } s.st.ready := by
  rw [State.offerNotPlaced_of_offering ho, if_neg (Bool.eq_false_iff.mp hc), State.roundUnsuccessful_backs_off h]

theorem State.offerNotPlaced_fails {s : State} {k : SourceIndex} (ho : (s.source k).state = .offering)
    (hc : (s.source k).cancelPending = false) (hl : s.cs.declineLimit ≠ 0)
    (hr : (s.source k).retry.toNat + 1 = s.cs.declineLimit.toNat) : s.offerNotPlaced k =
      s.putSource k { s.source k with state := .failed, retry := s.cs.declineLimit, again := false } s.st.ready := by
  rw [State.offerNotPlaced_of_offering ho, if_neg (Bool.eq_false_iff.mp hc), State.roundUnsuccessful_fails hl hr]

/-! DIRECT (R92) -/

/-- What the Claim Unit and the origin's source make of a DIRECT offer (R67, R68, R91, R92). -/
theorem exec_direct_closed {s : State} (accept : Bool) {x target : StationId} {c : ServiceClass} {k : SourceIndex}
    {g : Generation} {v : Byte} {b : Bool} {o : HeldOffer} (hd : s.decidedFrame = some (.direct x c target k g v b))
    (ht : s.foreignTwin (.direct x c target k g v b) = false) (ho : (Frame.direct x c target k g v b).offer = some o) :
    exec (.directOfferCompletion accept) s =
      .next (((s.claimClosed (s.cu.role == .accepting) o).offerReported s.sentItem
        (if (s.cu.role == .accepting) || !accept then some target else none)).betweenFrames
          [!(s.cu.role == .accepting)]).settle := by
  rw [exec_direct accept hd ht, State.offerClosed_eq ho]
  refine congrArg (fun u : State => Host.Outcome.next u.settle) ?_
  rw [State.offerReported_responded]
  exact State.responded_endFrame _ _ _

theorem State.foreignTwin_of_other {s : State} {f : Frame} (hf : f.sender ≠ s.sc.id) : s.foreignTwin f = false := by
  simp [State.foreignTwin, hf]

theorem State.sentItem_receiver {s : State} (hr : s.pbe.role = .receiver) : s.sentItem = none := by
  simp [State.sentItem, hr]

/-- Settles O28: the Claim Unit closes by its role, and the origin's source takes the answer as placed or not placed.
-/
theorem directOfferCompletes : Obligations.DirectOfferCompletes := by
  intro s accept x target c k g v b hd accepts closed ends
  have hclosed : s.claimClosed accepts
      { origin := x, source := k, generation := g, cls := c, vector := v, reentrant := b, tracked := true } = closed := by
    unfold State.claimClosed State.claimInstalled
    simp only [closed, accepts]
    cases s.cu.role <;> cases s.cu.reservation <;> rfl
  have hexec (ht : s.foreignTwin (.direct x c target k g v b) = false) : exec (.directOfferCompletion accept) s =
      ends (closed.offerReported s.sentItem (if accepts || !accept then some target else none)) :=
    hclosed ▸ exec_direct_closed accept hd ht rfl
  refine ⟨fun hr hx => ?_, fun j f hr hi ho => ?_⟩
  · rw [hexec (State.foreignTwin_of_other hx), State.sentItem_receiver hr]
    rfl
  · rw [hexec (State.foreignTwin_sender hr _), State.sentItem_of_inHand hr hi]
    intro r answered
    have hplaced (ha : answered = true) (u : State) (hu : closed.offerPlaced j target = u) :
        ends (closed.offerReported (some (.offer j)) (if accepts || !accept then some target else none)) = ends u :=
      congrArg ends ((congrArg (closed.offerReported (some (.offer j))) (if_pos ha)).trans hu)
    have hnot (ha : answered = false) (u : State) (hu : closed.offerNotPlaced j = u) :
        ends (closed.offerReported (some (.offer j)) (if accepts || !accept then some target else none)) = ends u :=
      congrArg ends ((congrArg (closed.offerReported (some (.offer j))) (if_neg (Bool.eq_false_iff.mp ha))).trans hu)
    refine ⟨fun ha hc => hplaced ha _ ?_, fun ha hc => hplaced ha _ ?_, fun ha hc => hnot ha _ ?_,
      fun ha hc hroom => hnot ha _ ?_, fun ha hc hl hfull => hnot ha _ ?_⟩
    · exact State.offerPlaced_kept (s := closed) ho hc target
    · exact State.offerPlaced_cancelled (s := closed) ho hc target
    · exact (State.offerNotPlaced_of_offering (s := closed) ho).trans (if_pos hc)
    · exact (State.offerNotPlaced_backs_off (s := closed) ho hc hroom)
    · exact (State.offerNotPlaced_fails (s := closed) ho hc hl hfull)

/-! POOL (R18, R94, R96) -/

theorem readResult_eq_some {p w : StationId} {word : BitVec 14} (hload : (word.extractLsb' 8 6).toNat ≤ 23)
    (hrank : word.extractLsb' 4 4 = w - p - 1) (hid : word.extractLsb' 0 4 = w) : readResult p word = some w := by
  simp only [readResult, claimRank, hload, hrank, hid, decide_true, beq_self_eq_true, Bool.and_self, if_true]

theorem readResult_eq_none {p : StationId} {word : BitVec 14}
    (h : ∀ w : StationId, ¬ ((word.extractLsb' 8 6).toNat ≤ 23 ∧ word.extractLsb' 4 4 = w - p - 1 ∧
      word.extractLsb' 0 4 = w)) : readResult p word = none := by
  have hword := h (word.extractLsb' 0 4)
  simp only [and_true] at hword
  simp only [readResult, claimRank, Bool.and_eq_true, decide_eq_true_eq, beq_iff_eq]
  exact if_neg hword

/-- What the Claim Unit and the origin's source make of a POOL offer (R18, R67, R68, R91, R94, R96). -/
theorem exec_pool_closed {s : State} {word : BitVec 14} {x p : StationId} {m : StationMask} {c : ServiceClass}
    {k : SourceIndex} {g : Generation} {v : Byte} {b installs : Bool} {driven : List Bool} {o : HeldOffer}
    (hd : s.decidedFrame = some (.pool x c m p k g v b)) (ht : s.foreignTwin (.pool x c m p k g v b) = false)
    (hresponse : s.poolResponse word installs driven) (ho : (Frame.pool x c m p k g v b).offer = some o) :
    exec (.poolOfferCompletion word) s =
      .next ((({ s.claimClosed installs o with
        cu := { (s.claimClosed installs o).cu with pointer := (readResult p word).getD s.cu.pointer } } :
          State).offerReported s.sentItem (readResult p word)).betweenFrames driven).settle := by
  obtain ⟨hdriven, hinstalls⟩ := State.claimEnd_of_poolResponse hresponse
  rw [exec_pool word hd ht, hdriven, hinstalls, State.offerClosed_eq ho]
  refine congrArg (fun u : State => Host.Outcome.next u.settle) ?_
  rw [State.offerReported_responded]
  exact State.responded_endFrame _ _ _

/-- Settles O29: the contest decides what is installed, the result word where the source is placed. -/
theorem poolOfferGoesToTheLowestWord : Obligations.PoolOfferGoesToTheLowestWord := by
  intro s word x p w m c k g v b installs driven hd hresponse closed placed ends names
  have hclosed : s.claimClosed installs
      { origin := x, source := k, generation := g, cls := c, vector := v, reentrant := b, tracked := true } = closed := by
    cases installs <;> cases hreserved : s.cu.reservation <;>
      simp only [State.claimClosed, State.claimInstalled, closed, hreserved]
  have hexec (ht : s.foreignTwin (.pool x c m p k g v b) = false) : exec (.poolOfferCompletion word) s =
      ends (({ closed with cu := { closed.cu with pointer := (readResult p word).getD s.cu.pointer } } :
        State).offerReported s.sentItem (readResult p word)) :=
    hclosed ▸ exec_pool_closed hd ht hresponse rfl
  have hawarded (ht : s.foreignTwin (.pool x c m p k g v b) = false) (hn : names w) :
      exec (.poolOfferCompletion word) s = ends (placed.offerReported s.sentItem (some w)) := by
    obtain ⟨hload, hrank, hid⟩ := hn
    rw [hexec ht, readResult_eq_some hload hrank hid]
    rfl
  have hunclaimed (ht : s.foreignTwin (.pool x c m p k g v b) = false) (hn : ∀ z, ¬ names z) :
      exec (.poolOfferCompletion word) s = ends (closed.offerReported s.sentItem none) := by
    rw [hexec ht, readResult_eq_none hn]
    rfl
  refine ⟨fun hr hx => ⟨fun hn => ?_, fun hn => ?_⟩, fun j f hr hi ho => ?_⟩
  · rw [hawarded (State.foreignTwin_of_other hx) hn, State.sentItem_receiver hr]
    rfl
  · rw [hunclaimed (State.foreignTwin_of_other hx) hn, State.sentItem_receiver hr]
    rfl
  · have hsent := State.sentItem_of_inHand hr hi
    have htwin := State.foreignTwin_sender hr (.pool x c m p k g v b)
    rw [hsent] at hawarded hunclaimed
    intro r
    refine ⟨fun hn hc => (hawarded htwin hn).trans (congrArg ends ?_), fun hn hc => (hawarded htwin hn).trans (congrArg ends ?_),
      fun hn hc => (hunclaimed htwin hn).trans (congrArg ends ?_),
      fun hn hc hroom => (hunclaimed htwin hn).trans (congrArg ends ?_),
      fun hn hc hl hfull => (hunclaimed htwin hn).trans (congrArg ends ?_)⟩
    · exact State.offerPlaced_kept (s := placed) ho hc w
    · exact State.offerPlaced_cancelled (s := placed) ho hc w
    · exact (State.offerNotPlaced_of_offering (s := closed) ho).trans (if_pos hc)
    · exact State.offerNotPlaced_backs_off (s := closed) ho hc hroom
    · exact State.offerNotPlaced_fails (s := closed) ho hc hl hfull

/-! SPREAD (R71, R98) -/

theorem State.enterIdle_roundLeft (s : State) (k : SourceIndex) (accepted : StationMask) :
    (s.roundLeft k accepted).enterIdle k = s.enterIdle k := by
  have hsource : (s.roundLeft k accepted).source k =
      { s.source k with remaining := (s.source k).remaining.map fun m => m &&& ~~~accepted } := by
    rw [State.roundLeft, State.source_setSource, if_pos rfl]
  have hoffer : (s.roundLeft k accepted).newOffer k false = s.newOffer k false := by
    unfold State.newOffer
    rw [hsource]
    rfl
  have hidle : (s.roundLeft k accepted).idleRecord k = s.idleRecord k := by
    unfold State.idleRecord
    rw [hsource]
  rw [State.enterIdle_eq, State.enterIdle_eq, hsource, hoffer, hidle]
  unfold State.roundLeft
  rw [putSource_setSource, putSource_setSource]
  rfl

theorem State.spreadRoundEnds_responded (s : State) (claim : ClaimState) (driven : List Bool) {k : SourceIndex}
    (accepted : StationMask) (ho : (s.source k).state = .offering) :
    (s.responded claim driven).spreadRoundEnds k accepted = (s.spreadRoundEnds k accepted).responded claim driven := by
  have hleft : (s.responded claim driven).roundLeft k accepted = (s.roundLeft k accepted).responded claim driven := rfl
  rw [State.spreadRoundEnds_of_offering ho, State.spreadRoundEnds_of_offering (s := s.responded claim driven) ho, hleft,
    State.enterIdle_responded, State.roundUnsuccessful_responded, apply_ite (State.responded · claim driven),
    apply_ite (State.responded · claim driven), apply_ite (State.responded · claim driven)]
  rfl

theorem State.roundReported_responded {s : State} {item : Option Item} (claim : ClaimState) (driven : List Bool)
    (accepted : StationMask) (ho : ∀ j, item = some (.offer j) → (s.source j).state = .offering) :
    (s.responded claim driven).roundReported item accepted = (s.roundReported item accepted).responded claim driven := by
  unfold State.roundReported
  split
  · exact State.spreadRoundEnds_responded s claim driven accepted (ho _ rfl)
  · rfl

/-- A SPREAD round that some stations accepted and others are left for: the source backs off, its count kept (R71). -/
theorem State.spreadRoundEnds_partial {s : State} {k : SourceIndex} {accepted rest : StationMask}
    (ho : (s.source k).state = .offering) (hc : (s.source k).cancelPending = false)
    (hrest : (s.source k).remaining.map (fun m => m &&& ~~~accepted) = some rest) (hne : rest ≠ 0) (ha : accepted ≠ 0) :
    s.spreadRoundEnds k accepted = s.putSource k
      { s.source k with state := .backoff s.cs.retryDelay.toNat, remaining := some rest } s.st.ready := by
  have hsource : (s.roundLeft k accepted).source k = { s.source k with remaining := some rest } := by
    rw [State.roundLeft, State.source_setSource, if_pos rfl, hrest]
  rw [State.spreadRoundEnds_of_offering ho, if_neg (Bool.eq_false_iff.mp hc), hrest, Option.getD_some,
    if_neg (by simpa using hne), if_pos (by simpa using ha), State.enterBackoff, hsource]
  exact putSource_setSource s k _ _ _

theorem State.spreadRoundEnds_idles {s : State} {k : SourceIndex} {accepted rest : StationMask}
    (ho : (s.source k).state = .offering) (hrest : (s.source k).remaining.map (fun m => m &&& ~~~accepted) = some rest)
    (h : (s.source k).cancelPending = true ∨ rest = 0) : s.spreadRoundEnds k accepted = s.enterIdle k := by
  rw [State.spreadRoundEnds_of_offering ho, hrest, Option.getD_some, State.enterIdle_roundLeft]
  rcases h with hc | hz
  · rw [if_pos hc]
  · rw [hz, beq_self_eq_true, if_pos rfl, ite_self]

theorem State.spreadRoundEnds_unanswered {s : State} {k : SourceIndex} {left : StationMask}
    (ho : (s.source k).state = .offering) (hc : (s.source k).cancelPending = false)
    (hleft : (s.source k).remaining = some left) (hne : left ≠ 0) : s.spreadRoundEnds k 0 = s.roundUnsuccessful k := by
  rw [State.spreadRoundEnds_of_offering ho, if_neg (Bool.eq_false_iff.mp hc), hleft, Option.map_some, Option.getD_some,
    stationMask_and_not_zero, if_neg (by simpa using hne), State.roundLeft_zero]
  rfl

/-- What the Claim Unit and the origin's source make of a SPREAD offer (R71, R91, R98). -/
theorem exec_spread_closed {s : State} (mask : StationMask) {x : StationId} {m : StationMask} {c : ServiceClass}
    {k : SourceIndex} {g : Generation} {v : Byte} {o : HeldOffer} (hd : s.decidedFrame = some (.spread x c m k g v))
    (ht : s.foreignTwin (.spread x c m k g v) = false) (ho : (Frame.spread x c m k g v).offer = some o)
    (hitem : ∀ j, s.sentItem = some (.offer j) → (s.source j).state = .offering) :
    exec (.spreadOfferCompletion mask) s =
      .next (((s.claimClosed (s.cu.role == .accepting) o).roundReported s.sentItem
        (~~~(mask &&& positionDrive (s.cu.role == .accepting) s.sc.id))).betweenFrames
          (fieldBits (positionDrive (s.cu.role == .accepting) s.sc.id))).settle := by
  rw [exec_spread mask hd ht, State.offerClosed_eq ho]
  refine congrArg (fun u : State => Host.Outcome.next u.settle) ?_
  rw [State.roundReported_responded _ _ _ (by exact hitem)]
  exact State.responded_endFrame _ _ _

/-- Settles O30: the stations that answered leave the remaining mask, and what is left of it decides the source's
state. -/
theorem spreadOfferCompletes : Obligations.SpreadOfferCompletes := by
  intro s mask m x c k g v hd driven closed ends
  have hclosed : s.claimClosed (s.cu.role == .accepting)
      { origin := x, source := k, generation := g, cls := c, vector := v, reentrant := false, tracked := false } =
        closed := by
    unfold State.claimClosed State.claimInstalled
    simp only [closed]
    cases s.cu.role <;> cases s.cu.reservation <;> rfl
  have hexec (ht : s.foreignTwin (.spread x c m k g v) = false)
      (hitem : ∀ j, s.sentItem = some (.offer j) → (s.source j).state = .offering) :
      exec (.spreadOfferCompletion mask) s = ends (closed.roundReported s.sentItem (~~~(mask &&& driven))) := by
    rw [exec_spread_closed mask hd ht rfl hitem, hclosed, positionDrive_eq]
  refine ⟨fun hr hx => ?_, fun j f left hr hi ho hleft => ?_⟩
  · rw [hexec (State.foreignTwin_of_other hx) (by simp [State.sentItem_receiver hr]), State.sentItem_receiver hr]
    rfl
  · have hsent := State.sentItem_of_inHand hr hi
    have hround := hexec (State.foreignTwin_sender hr _) (by
      rw [hsent]
      rintro i ⟨⟩
      exact ho)
    rw [hsent] at hround
    intro r silent rest
    have hrest : (closed.source j).remaining.map (fun m => m &&& ~~~(~~~silent)) = some rest := by
      rw [BitVec.not_not]
      exact congrArg _ hleft
    have hnone (hs : silent = BitVec.allOnes 16) : ~~~(mask &&& driven) = 0 :=
      (congrArg (~~~ ·) hs).trans (by decide)
    have hsome (hs : silent ≠ BitVec.allOnes 16) : ~~~silent ≠ 0 := fun hz =>
      hs ((BitVec.not_not (b := silent)).symm.trans ((congrArg (~~~ ·) hz).trans BitVec.not_zero))
    refine ⟨fun h => hround.trans (congrArg ends ?_), fun hc hne hs => hround.trans (congrArg ends ?_),
      fun hc hne hs hl hfull => hround.trans (congrArg ends ?_), fun hc hne hs hroom => hround.trans (congrArg ends ?_)⟩
    · exact State.spreadRoundEnds_idles (s := closed) ho hrest h
    · exact State.spreadRoundEnds_partial (s := closed) ho hc hrest hne (hsome hs)
    · rw [hnone hs]
      exact (State.spreadRoundEnds_unanswered (s := closed) ho hc hleft hne).trans
        (State.roundUnsuccessful_fails (s := closed) hl hfull)
    · rw [hnone hs]
      exact (State.spreadRoundEnds_unanswered (s := closed) ho hc hleft hne).trans
        (State.roundUnsuccessful_backs_off (s := closed) hroom)

end Sys2Proof.Machine
end

section
/-! SUPPORT and OBLIGATIONS. The Local Port's frames: those that carry no command, what their bits spell, the checks in
their order, and the commands of the life cycle. -/

namespace Sys2Proof.Machine

/-! What the bits of a frame spell (R153, R189) -/

/-- Settles O32: the bytes come apart again, and the code byte of a command names that command. -/
theorem portFrameBitsSpellTheirCommand : Obligations.PortFrameBitsSpellTheirCommand := by
  intro c code t hc ht
  have hsplit : splitBytes (portFrameBits code t) = (code :: t.bytes, t.extra) :=
    splitBytes_byteBits (code :: t.bytes) t.extra (by simpa [PortTail.wellFormed] using ht)
  have hcommand : commandOf code t = some c := by
    cases c <;> cases hc <;> rfl
  simp only [classifyFrame, hsplit, hcommand, Option.getD_some]

/-! The checks of Table 8-2 -/

theorem byteCountFits_iff (code : Byte) (n : Nat) :
    byteCountFits code n = true ↔ ∃ lo hi, byteCount code = some (lo, hi) ∧ lo ≤ n ∧ n ≤ hi := by
  unfold byteCountFits
  rcases byteCount code with _ | ⟨lo, hi⟩ <;> simp

theorem State.takeFrame_closed {s : State} (h : ¬ s.portOpen) (code : Byte) (t : PortTail) :
    s.takeFrame code t = .notTaken := by
  rw [State.takeFrame, if_pos (State.frameOfReset_eq_true h)]

/-- Check 3. -/
theorem State.takeFrame_partial {s : State} (h : s.portOpen) {code : Byte} {t : PortTail}
    (hw : ¬ (t.extra = [] ∧ (portFrameBits code t).length ≤ 256)) : s.takeFrame code t = .refused .badLen := by
  have hbits : (t.extra != [] || decide (Config.inputLimit < (portFrameBits code t).length)) = true := by
    by_cases he : t.extra = []
    · have hlen : Config.inputLimit < (portFrameBits code t).length := not_le.mp fun hl => hw ⟨he, hl⟩
      simp [hlen]
    · simp [he]
  rw [State.takeFrame, if_neg (by simp [State.frameOfReset_eq_false h]), if_pos hbits]

/-- From check 4 on, the frame holding whole bytes. -/
theorem State.takeFrame_whole {s : State} (h : s.portOpen) {code : Byte} {t : PortTail}
    (hw : t.extra = [] ∧ (portFrameBits code t).length ≤ 256) (hc : isCommandCode code = true) :
    s.takeFrame code t =
      if byteCountFits code (t.bytes.length + 1) then
        if admittedIn code s.sc.station then .taken else .refused .state
      else .refused .badLen := by
  obtain ⟨he, hl⟩ := hw
  have hlimit : ¬ Config.inputLimit < (portFrameBits code t).length := not_lt.mpr hl
  simp only [State.takeFrame, State.frameOfReset_eq_false h, he, hlimit, hc]
  cases byteCountFits code (t.bytes.length + 1) <;> cases admittedIn code s.sc.station <;> rfl

/-- Settles O33: the checks of `State.takeFrame` in their order; a frame refused by one runs no command. -/
theorem portChecksComeInOrder : Obligations.PortChecksComeInOrder := by
  refine ⟨fun c code t s hc => ?_, by decide, by decide, rfl, rfl, rfl, rfl⟩
  intro bits whole fits
  have hanswers {r : ResultCode} (h : s.portOpen) (ht : s.takeFrame code t = .refused r) :
      exec c s = .next (s.answered bits r (some code) []) := by
    rw [exec_of_refused hc ht, State.respond_clockFrame h]
  have hcode := isCommandCode_of_commandCode hc
  refine ⟨fun h => ?_, fun h hw => hanswers h (State.takeFrame_partial h hw), fun h hw hf => hanswers h ?_,
    fun h hw hf hs => hanswers h ?_⟩
  · rw [exec_of_notTaken hc (State.takeFrame_closed h code t), State.clockFrame_closed h]
  · rw [State.takeFrame_whole h hw hcode, if_neg (mt (byteCountFits_iff _ _).mp hf)]
  · rw [State.takeFrame_whole h hw hcode, if_pos ((byteCountFits_iff _ _).mpr hf),
      if_neg (mt (admittedIn_iff_takenIn hc h.2).mp hs)]

/-! Frames that carry no command -/

theorem splitBytes_fieldBits (c : Byte) (rest : List Bool) :
    splitBytes (fieldBits c ++ rest) = (c :: (splitBytes rest).1, (splitBytes rest).2) := by
  have hb := fieldBits_length c
  have hv : BitVec.ofNat 8 (bitsNat (fieldBits c)) = c := by rw [bitsNat_fieldBits]; simp
  match hf : fieldBits c, hb with
  | [x0, x1, x2, x3, x4, x5, x6, x7], _ =>
    rw [hf] at hv
    simp only [List.cons_append, List.nil_append, splitBytes, hv]

theorem isCommandCode_eq_false {c : Byte} (h : c ∉ ([0x00, 0x01, 0x02, 0x03, 0x04, 0x05, 0x06, 0x07, 0x08, 0x09, 0x10,
    0x11, 0x12, 0x13, 0x20, 0x21, 0x22, 0x23, 0x24, 0x30, 0x31, 0x32, 0x33, 0x34, 0x35, 0x3F] : List Byte)) :
    isCommandCode c = false := by
  revert c
  decide +kernel

/-- A frame of fewer than eight bits holds no command code. -/
theorem exec_unknownCommand_short {s : State} (h : s.portOpen) {extra : List Bool} (hl : extra.length < 8)
    (he : extra ≠ []) : exec (.unknownCommand extra) s = .next (s.answered extra .badLen none []) := by
  have hsplit : splitBytes (extra.take Config.inputLimit) = ([], extra) := by
    rw [List.take_of_length_le (by simp only [Config.inputLimit]; omega)]
    exact splitBytes_byteBits [] extra hl
  have hempty : (s.frameOfReset || extra.isEmpty) = false := by simp [State.frameOfReset_eq_false h, he]
  refine congrArg Host.Outcome.next ((if_neg (Bool.eq_false_iff.mp hempty)).trans ?_)
  simp only [hsplit]
  exact State.respond_clockFrame h _ _ _ _

/-- A frame whose first byte is no command code: its bits after the last whole byte, or its bits over 256, refuse it
first. -/
theorem exec_unknownCommand_byte {s : State} (h : s.portOpen) {c : Byte} (hc : isCommandCode c = false) (rest : List Bool) :
    exec (.unknownCommand (fieldBits c ++ rest)) s = .next (s.answered (fieldBits c ++ rest)
      (if (splitBytes (rest.take 248)).2 ≠ [] ∨ 256 < (fieldBits c ++ rest).length then .badLen else .unknown)
      (some c) []) := by
  have hlen := fieldBits_length c
  have hsplit : splitBytes ((fieldBits c ++ rest).take Config.inputLimit) =
      (c :: (splitBytes (rest.take 248)).1, (splitBytes (rest.take 248)).2) := by
    rw [List.take_append, List.take_of_length_le (by rw [hlen]; decide), hlen]
    exact splitBytes_fieldBits c _
  have hempty : (s.frameOfReset || (fieldBits c ++ rest).isEmpty) = false := by
    have hne : fieldBits c ++ rest ≠ [] := fun he => by simpa [hlen] using congrArg List.length he
    simp [State.frameOfReset_eq_false h, hne]
  refine congrArg Host.Outcome.next ((if_neg (Bool.eq_false_iff.mp hempty)).trans ?_)
  simp only [hsplit, hc, Bool.false_eq_true, if_false]
  by_cases hbad : (splitBytes (rest.take 248)).2 ≠ [] ∨ 256 < (fieldBits c ++ rest).length
  · rw [if_pos hbad, if_pos (by simpa [Config.inputLimit] using hbad)]
    exact State.respond_clockFrame h _ _ _ _
  · rw [if_neg hbad, if_neg (by simpa [Config.inputLimit] using hbad)]
    exact State.respond_clockFrame h _ _ _ _

/-- What follows the first byte of a frame of whole bytes, its bits over 256 cut off. -/
theorem splitBytes_take_bytes {bs : List Byte} {extra : List Bool} (hl : extra.length < 8)
    (hlen : (byteBits bs ++ extra).length ≤ 248) : splitBytes ((byteBits bs ++ extra).take 248) = (bs, extra) := by
  rw [List.take_of_length_le hlen]
  exact splitBytes_byteBits bs extra hl

theorem exec_frameNotTaken_closed {s : State} (h : ¬ s.portOpen) (bits : List Bool) (n : Nat) :
    exec (.frameNotTaken { bits := bits, beforeReset := n }) s = .next (s.ignored bits n) := by
  refine congrArg Host.Outcome.next ((if_pos (by simp [State.frameOfReset_eq_true h])).trans ?_)
  exact State.clockFrame_closed h bits n

/-- A frame without bits shifts nothing in or out. -/
theorem State.clockFrame_nil (s : State) (n : Nat) : s.clockFrame [] n = s.ignored [] n := by
  by_cases h : s.portOpen
  · have hout (r : Response) : shiftOut r 0 = [] := by simp [shiftOut, thenOnes]
    rw [State.clockFrame_open h, List.length_nil, hout, State.ignored]
    cases s.lp.frame <;> simp
  · exact State.clockFrame_closed h [] n

/-- Settles O31: the first byte, the bits after the last whole byte and the bits over 256 decide, as the port splits
them. -/
theorem framesThatCarryNoCommand : Obligations.FramesThatCarryNoCommand := by
  refine ⟨fun s hs => ?_, fun s bits => ⟨fun h n => exec_frameNotTaken_closed h bits n, fun n => ?_⟩,
    fun s n bits hs hn => ?_,
    fun s c bs extra h hl => ⟨fun he => exec_unknownCommand_short h hl he, fun hc => ⟨fun hbad => ?_, fun he hlen => ?_⟩⟩⟩
  · have hfirst : s.firstBit = if s.sc.station = .reset then true else s.lp.buffer.result.byte.getMsbD 0 := by
      by_cases hreset : s.sc.station = .reset <;> simp [State.firstBit, hreset, BitVec.msb]
    refine congrArg Host.Outcome.next ((if_pos hs).trans ?_)
    rw [hfirst]
  · refine congrArg Host.Outcome.next ((if_pos (by simp)).trans ?_)
    exact State.clockFrame_nil s n
  · have hcut : ({ s.enterReset with pins := { s.enterReset.pins with resetLow := true } } : State).lp.frame =
        .cutByReset s.lp.buffer := congrArg (PortFrame.afterReset s.lp.buffer) hs
    refine ⟨_, _, rfl, exec_frameNotTaken_closed (fun h => h.2 rfl) bits n, ?_, rfl, rfl⟩
    simp only [State.ignored]
    rw [hcut]
    show (shiftOut s.lp.buffer n).take bits.length ++ _ = _
    rw [List.take_of_length_le (by rw [shiftOut_length]; exact hn)]
  · have hbits : byteBits (c :: bs) ++ extra = fieldBits c ++ (byteBits bs ++ extra) := by
      rw [byteBits_cons, List.append_assoc]
    rw [hbits, exec_unknownCommand_byte h (isCommandCode_eq_false hc), if_pos]
    by_cases hlong : 256 < (fieldBits c ++ (byteBits bs ++ extra)).length
    · exact .inr hlong
    · have hlen : 8 + (8 * bs.length + extra.length) ≤ 256 := by
        simpa [fieldBits_length, byteBits_length] using hlong
      rw [splitBytes_take_bytes hl (by rw [List.length_append, byteBits_length]; omega)]
      exact .inl (hbad.resolve_right (by omega))
  · have hbits : byteBits (c :: bs) = fieldBits c ++ (byteBits bs ++ []) := by rw [byteBits_cons, List.append_nil]
    rw [State.answers, hbits, exec_unknownCommand_byte h (isCommandCode_eq_false hc), if_neg]
    · rfl
    · rw [splitBytes_take_bytes (by decide) (by rw [List.length_append, byteBits_length, List.length_nil]; omega)]
      simp only [ne_eq, not_true_eq_false, false_or, List.length_append, fieldBits_length, byteBits_length,
        List.length_nil]
      omega

/-! The life cycle's commands (R29, R36 to R38) -/

/-- Settles O40: both commands are taken, and what they leave is entry to JOIN on the clocked state. -/
theorem commitAndRejoinEnterJoin : Obligations.CommitAndRejoinEnterJoin := by
  refine ⟨fun s h hs => ?_, fun s h hs => ?_⟩
  · have htaken : s.takeFrame 0x13 ⟨[], []⟩ = .taken :=
      State.takeFrame_open h _ _ rfl rfl (by decide) (by rw [hs]; rfl)
    refine congrArg Host.Outcome.next ((State.portCommand_taken htaken _).trans ?_)
    rw [portFrameBits_whole, State.clockFrame_open h]
    rfl
  · have htaken : s.takeFrame 0x24 ⟨[], []⟩ = .taken := State.takeFrame_open h _ _ rfl rfl (by decide) hs
    refine congrArg Host.Outcome.next ((State.portCommand_taken htaken _).trans ?_)
    rw [portFrameBits_whole, State.clockFrame_open h]
    rfl

/-- A command without argument bytes answers in JOIN, RUN and PARKED, or a part of them. -/
theorem State.takeFrame_bare {s : State} (h : s.portOpen) {code : Byte} (hc : isCommandCode code = true)
    (hf : byteCountFits code 1 = true) (ha : admittedIn code s.sc.station = true) :
    s.takeFrame code ⟨[], []⟩ = .taken := State.takeFrame_open h _ _ hc hf (by decide) ha

theorem Alerts.byte_without_drop (fail conflict : Bool) :
    ({ fail := fail, drop := false, conflict := conflict } : Alerts).byte =
      BitVec.ofNat 8 (4 * fail.toNat + conflict.toNat) := by
  cases fail <;> cases conflict <;> rfl

/-- Settles O41: each command is taken where the station takes part, and its body is evaluated on the clocked state.
-/
theorem parkThresholdAndAlerts : Obligations.ParkThresholdAndAlerts := by
  refine ⟨fun s h => ⟨fun hs => ?_, fun hs => ?_⟩, fun s v h hs => ⟨fun hv => ?_, fun hv => ?_⟩, fun s h hs => ?_⟩
  · refine congrArg Host.Outcome.next ((State.portCommand_taken
      (State.takeFrame_bare h rfl rfl (by rw [hs]; rfl)) _).trans ?_)
    rw [portFrameBits_whole, State.clockFrame_open h]
    rfl
  · refine congrArg Host.Outcome.next ((State.portCommand_taken
      (State.takeFrame_bare h rfl rfl (by rw [hs]; rfl)) _).trans ?_)
    rw [portFrameBits_whole, State.clockFrame_open h]
    rfl
  · refine congrArg Host.Outcome.next (State.portCommand_answers
      (u := ({ s with svt := { s.svt with threshold := v.toNat } } : State).settle) h
      (State.takeFrame_open h 0x20 [v] rfl rfl (by simp) hs) ?_)
    exact if_neg (not_lt.mpr hv)
  · refine congrArg Host.Outcome.next (State.portCommand_answers (u := s) h
      (State.takeFrame_open h 0x20 [v] rfl rfl (by simp) hs) ?_)
    exact if_pos hv
  · refine congrArg Host.Outcome.next (State.portCommand_answers
      (u := ({ s with lp := { s.lp with alerts := { s.lp.alerts with drop := false } } } : State).settle) h
      (State.takeFrame_bare h (code := 0x23) rfl rfl hs) ?_)
    exact congrArg (fun b => Reply.ok _ [b]) (Alerts.byte_without_drop s.anyFailed s.lp.alerts.conflict)

end Sys2Proof.Machine
end

section
/-! SUPPORT and OBLIGATIONS. What stands outside the bus states: no event of the bus or the tick acts there, and in HALT no
command does. -/

namespace Sys2Proof.Machine

/-! Events of the bus and the tick -/

theorem State.decidedFrame_elsewhere {s : State} (h : s.sc.station.takesPart = false) : s.decidedFrame = none := by
  simp [State.decidedFrame, h]

/-- Settles O48: each row is guarded by the station's taking part, by the span's end or by the frame decided on. -/
theorem silentOutsideTheBusStates : Obligations.SilentOutsideTheBusStates := by
  intro c s hc h
  have hspan (samples : List Bool) : s.spanEnd samples = .elsewhere := State.spanEnd_elsewhere samples (.inl h)
  have hdecided := State.decidedFrame_elsewhere h
  cases c
  case stationTick | holdOffExpiry => exact congrArg Host.Outcome.next (if_neg (Bool.eq_false_iff.mp h))
  case debounceQualified | backoffExpiry | helloRetryExpiry | integrationComplete | busIdle | arbitrationReport |
      sourceFailed =>
    exact congrArg Host.Outcome.next (if_neg (by simp [h]))
  case startOpportunity => exact congrArg Host.Outcome.next (if_neg (by simp [State.atStartOpportunity, h]))
  case bitCompareMismatch => simp only [exec, execBitCompareMismatch, hspan]
  case frameAbandoned => simp only [exec, execFrameAbandoned, hspan]
  case decision => simp only [exec, execDecision, hspan]
  case frameDiscardedByErr => simp only [exec, execFrameDiscardedByErr, hspan]
  case invalidKindFrameEnd => simp only [exec, execInvalidKindFrameEnd, hspan]
  case helloCompletion => simp only [exec, execHelloCompletion, hspan]
  case doneCompletion => simp only [exec, execDoneCompletion, hspan]
  case withdrawCompletion => simp only [exec, execWithdrawCompletion, hspan]
  case directOfferCompletion => simp only [exec, execDirectOfferCompletion, hdecided]
  case poolOfferCompletion => simp only [exec, execPoolOfferCompletion, hdecided]
  case spreadOfferCompletion => simp only [exec, execSpreadOfferCompletion, hdecided]
  case noticeDrop =>
    refine congrArg Host.Outcome.next ?_
    split
    · exact if_neg (by simp [h])
    · rfl
  all_goals cases hc

/-! HALT -/

/-- In HALT a command that begins no full reset has no effect. -/
theorem Effect.eq_of_halt {c : Instr} {s t : State} (h : Effect c s t) (hs : s.sc.station = .halt)
    (hc : c.forcesReset = false) (hr : ∀ tail, c ≠ .reset tail) : t = s := by
  have hp : ¬ s.sc.station.takesPart = true := by rw [hs]; exact Bool.false_ne_true
  cases h with
  | stands => rfl
  | resets _ _ hreset =>
    rcases hreset with hforces | ⟨tail, hreset⟩
    · rw [hc] at hforces
      cases hforces
    · exact absurd hreset (hr tail)
  | endsReset _ hs' => cases hs.symm.trans hs'
  | stores _ _ hs' => cases hs.symm.trans hs'
  | commits hs' => cases hs.symm.trans hs'
  | parks hs' => cases hs.symm.trans hs'
  | unparks hs' => cases hs.symm.trans hs'
  | decides _ _ hg => exact absurd (State.takesPart_of_spanEnd hg (by simp)).1 hp
  | offerEnds _ _ _ _ _ hd => exact absurd (State.takesPart_of_decidedFrame hd).1 hp
  | _ => exact absurd (by assumption) hp

/-- Settles O49: in HALT no effect but standing still is left (`Effect.eq_of_halt`). -/
theorem haltHoldsEverything : Obligations.HaltHoldsEverything := by
  intro c s t hs hc hr h
  obtain ⟨u, v, hu, he, hv⟩ := exec_does h
  have hstands := he.eq_of_halt (hu.sc ▸ hs) hc hr
  exact (State.portMoved_trans hu (hstands ▸ hv)).same

end Sys2Proof.Machine
end
